-- ==== Sys2Proof/Word.lean ====
section
/-! DEFINITION. The two bit-level types of the model: the byte of a frame (R183) and the 16-bit register of a
wellhead unit (chapter 4). Every other quantity of the manual is a number (section 5.1) and is held as a `Nat`
or an `Int`. -/

namespace Sys2Proof

/-- One byte of a port frame (R183). -/
abbrev Byte := BitVec 8

/-- One register of a wellhead unit's device, or of a staging buffer (R78): 16 bits. -/
abbrev Reg16 := BitVec 16

end Sys2Proof
end

