-- ==== Sys2Proof/Syntax.lean ====
section
/-! DEFINITION. The commands of the SC6: one constructor of `Instr` per row of spec/opcode_table.json, with the
types of their operands. A request carries its port, its tag and its payload bytes exactly as the frame of R183
brings them; Operands.lean reads the payload by Table 10-11. -/

namespace Sys2Proof

/-- The three master ports (section 4). -/
inductive Port where
  | ops | com | met
deriving DecidableEq, Repr

/-- The request kinds of Table 10-3 (R189). -/
inductive ReqKind where
  | readStatus | readPoints | readIntervals | readAccounts | readDayRecords | readNominations | readParameters
  | ackCauses | setMask
  | remoteRead | remoteWrite | writeStaging | readStaging | setAnswerMode | fetchRemote
  | setSiteControl | setSiteMode | setChangeoverTime | setCavern | setPipeline | setCavernInventory
  | setPoint | setSurveyPeriod | setLink
  | startUnit | stopUnit | setUnit | setDuty | setRunSeconds
  | setTower | setTrain | setDryer
  | setChannel | resetTrip
  | setCv | setClock | setLineRate
  | restart
  | stageOpening | openBook | setShipper | transfer | nominate | setRatchet | setLeadTime | resetEntryCounter
  | setMetrology | readMetrologyList | clearMetrologyList
deriving DecidableEq, Repr

/-- A request as a port receives it (R183): the port it arrives at, the tag its master chose and its payload. The
frame's start, length, kind and CRC-16 bytes are spent by the time it is a command: the kind is the constructor
of `Instr` that carries the request, and the frame's CRC-16 was right. -/
structure Request where
  port : Port
  tag : Byte
  payload : List Byte
deriving DecidableEq, Repr

/-- Which of two blocks acts first where one command reaches both and the manual leaves their order open
(R152, R178). `movementFirst`: the movement controller acts before the other block; `movementLast`: after it. -/
inductive Order where
  | movementFirst | movementLast
deriving DecidableEq, Repr

/-- The three blocks that act on the completion of an interval record, each on its own state (R64). -/
structure Readers where
  caverns : Bool
  dryer : Bool
  book : Bool
deriving DecidableEq, Repr

/-- How the blocks take a completed record (R64, R178): in which order, and which of them (`later`) take it only after
commands that fall at the same instant (R113, R166, R167). -/
structure Taking where
  order : Order
  later : Readers
deriving DecidableEq, Repr

/-- A completion taken by every block at once, the caverns first. -/
def Taking.atOnce : Taking := { order := .movementFirst, later := { caverns := false, dryer := false, book := false } }

/-- The kinds of link transaction (R68). -/
inductive LinkKind where
  | read | write | status
deriving DecidableEq, Repr

/-- What a reply frame of the field link says (R68). -/
inductive LinkReply where
  | data (regs : List Reg16)
  | done
  | rejected
  | status
deriving DecidableEq, Repr

/-- A frame received on the field link, in the terms by which R69 sorts it. `intact` is false where its CRC-16 is
wrong or it was cut short. `unit` is the address 1–6. `lines` are the levels of status lines 0–3, `true` HIGH. -/
structure LinkFrame where
  intact : Bool
  tag : Byte
  unit : Nat
  kind : LinkKind
  device : Nat
  first : Nat
  count : Nat
  reply : LinkReply
  lines : Vector Bool 4
deriving DecidableEq, Repr

/-- The commands: one constructor per row of spec/opcode_table.json. Levels are `true` for HIGH and for ACTIVE. -/
inductive Instr where
  -- requests of the ports (Table 10-3)
  | readStatus (r : Request)
  | readPoints (r : Request)
  | readIntervals (r : Request)
  | readAccounts (r : Request)
  | readDayRecords (r : Request)
  | readNominations (r : Request)
  | readParameters (r : Request)
  | ackCauses (r : Request)
  | setMask (r : Request)
  | remoteRead (r : Request)
  | remoteWrite (r : Request)
  | writeStaging (r : Request)
  | readStaging (r : Request)
  | setAnswerMode (r : Request)
  | fetchRemote (r : Request)
  | setSiteControl (r : Request)
  | setSiteMode (r : Request)
  | setChangeoverTime (r : Request)
  | setCavern (r : Request)
  | setPipeline (r : Request)
  | setCavernInventory (r : Request)
  | setPoint (r : Request)
  | setSurveyPeriod (r : Request)
  | setLink (r : Request)
  | startUnit (r : Request)
  | stopUnit (r : Request)
  | setUnit (r : Request)
  | setDuty (r : Request)
  | setRunSeconds (r : Request)
  | setTower (r : Request)
  | setTrain (r : Request)
  | setDryer (r : Request)
  | setChannel (r : Request)
  | resetTrip (r : Request)
  /-- RESET_TRIP whose one payload byte names ADVISORY (R139). -/
  | resetTripAdvisory (port : Port) (tag : Byte)
  | setCv (r : Request)
  /-- `taking` decides the orders that R64, R152 and R178 leave open inside the request. -/
  | setClock (r : Request) (taking : Taking)
  | setLineRate (r : Request)
  | restart (r : Request)
  | stageOpening (r : Request)
  | openBook (r : Request)
  | setShipper (r : Request)
  | transfer (r : Request)
  | nominate (r : Request)
  | setRatchet (r : Request)
  | setLeadTime (r : Request)
  | resetEntryCounter (r : Request)
  | setMetrology (r : Request)
  | readMetrologyList (r : Request)
  | clearMetrologyList (r : Request)
  /-- A request whose kind byte is in no row of Table 10-3 (R186). -/
  | undefinedRequestKind (r : Request) (kind : Byte)
  -- events at a port's receiver (R185, R188)
  | frameCrcError (port : Port)
  /-- The length byte of a frame being collected (R185). -/
  | frameLengthInvalid (port : Port) (length : Byte)
  | framePauseTimeout (port : Port)
  | heldFrameDiscard (port : Port)
  | answerSent (port : Port)
  -- resets and start-up (R207, R208)
  | restartReset
  | powerFail
  /-- `backup`: the clock value the backup supply carried, or none where it failed (R57). -/
  | powerOn (backup : Option (BitVec 32))
  | resetInputAssert
  | resetInputRelease
  | startUpComplete (order : Order)
  -- the time base (R57 to R60)
  | clockTick
  | intervalClose (taking : Taking)
  | hourEvent (order : Order)
  | changeoverExpiry
  /-- `samples`: what the sixteen local analog inputs convert to at their visits (R24). -/
  | passDue (samples : Vector Reg16 16)
  -- process lines
  | pulseInputChange (channel : Fin 8) (a b : Bool)
  | pinLevelChange (pin : Fin 16) (high : Bool)
  | feedbackChange (unit : Fin 4) (active : Bool)
  | sealInputChange (isOpen : Bool)
  -- the field link (R69 to R72)
  | linkFrameReceived (frame : LinkFrame)
  | attemptTransmitted
  | attemptTimeout
  | settleWaitExpiry
  -- timers of the compressor units, the towers and the protection channels
  | startTimeExpiry (unit : Fin 4)
  | cooldownExpiry (unit : Fin 4)
  | stopDelayExpiry
  | heatingExpiry (tower : Fin 4)
  | coolingExpiry (tower : Fin 4)
  | debounceExpiry (channel : Fin 32)
  /-- A byte C5h arriving at a port (R185). -/
  | frameStart (port : Port)
deriving DecidableEq, Repr

end Sys2Proof
end

