-- ==== Sys2Proof/Config.lean ====
section
/-! DEFINITION. What the manual fixes for every SC6 (the sizes and limits of Table 6-1 that are not operands of a
request) and what it leaves open: the free values, opaque constants of which nothing can be proved. -/

namespace Sys2Proof.Config

/-- Greatest clock value (R57). -/
def clockMax : Nat := 4294967295
/-- Waiting entries of the link queue (R70). -/
def queueSize : Nat := 8
/-- Records kept by the interval log (R66). -/
def logSize : Nat := 1440
/-- Day records kept (R181). -/
def dayRecordCount : Nat := 8
/-- Entries of a cavern's pressure-rate ring (R16). -/
def ringSize : Nat := 60
/-- Entries of a unit's start log (R94). -/
def startLogSize : Nat := 6
/-- Seconds for which a start log entry stays recent (R94). -/
def recentSeconds : Nat := 3600
/-- Entries of the metrology change list (R204). -/
def changeListSize : Nat := 64
/-- Length of the change list from which LIST_NEARLY_FULL is raised (R204). -/
def changeListNear : Nat := 56
/-- Hours of the nomination window (R143). -/
def windowHours : Nat := 24
/-- Counts held at 65,535 (R30, R31, R36). -/
def count16Max : Nat := 65535
/-- Counts held at 4,294,967,295 (R87, R108, R146). -/
def count32Max : Nat := 4294967295
/-- Greatest tower loading (R108). -/
def loadingMax : Nat := 18446744073709551615
/-- Bytes of a staging buffer register file: seven registers (R78). -/
def stagingRegs : Nat := 7

/-! ### Free values

The manual gives these quantities a width and does not say what they become when the exact result lies outside it.
Each is a function of the exact result, with no body (notes/assumptions/5.md). -/

/-- What a signed 64-bit quantity holds after an exact result outside its range (R18, R159, R167). -/
opaque overflowI64 : Int → BitVec 64
/-- What a counter of 0 to 2^63 − 1 holds after an exact result outside its range (R159). -/
opaque overflowU63 : Nat → BitVec 63
/-- What an unsigned 64-bit quantity holds after an exact result outside its range (R113, R183). -/
opaque overflowU64 : Nat → BitVec 64
/-- What an unsigned 32-bit count holds after an exact result outside its range (R41, R66, R167). -/
opaque overflowU32 : Nat → BitVec 32

/-- What READ_NOMINATIONS carries as the rate of slot n + 1 while the previous-hour copy is empty (R199): the manual gives
the field its eight bytes and no value (notes/assumptions/25.md). -/
opaque emptyCopyRate : Fin 32 → BitVec 64

end Sys2Proof.Config
end

