-- ==== Sys2Proof/Machine/Arith.lean ====
section
/-! DEFINITION. The words of section 5.2 (floor, ceil, trunc, rounded to nearest, clamped) as functions on exact
integers, the truncated interpolation that R51, R113 and R150 share, and the widths of stored quantities. -/

namespace Sys2Proof.Machine

/-- floor(a ÷ b): rounding toward negative infinity (section 5.2). -/
def floorDiv (a b : Int) : Int := a.fdiv b

/-- trunc(a ÷ b): rounding toward zero (section 5.2). -/
def truncDiv (a b : Int) : Int := a.tdiv b

/-- ceil(a ÷ b) for a natural dividend and a positive divisor (section 5.2). -/
def ceilDiv (a b : Nat) : Nat := (a + b - 1) / b

/-- a ÷ b rounded to nearest, halves up, for a positive divisor (section 5.2, R52). -/
def roundDiv (a b : Nat) : Nat := (2 * a + b) / (2 * b)

/-- v clamped to lo–hi: replaced by the nearer end when outside (section 5.2). -/
def clamp (lo hi v : Int) : Int := if v < lo then lo else if hi < v then hi else v

/-- Whether v lies within lo–hi, both ends included (section 5.3). -/
def within (lo hi v : Int) : Bool := decide (lo ≤ v) && decide (v ≤ hi)

/-- The element of `Fin n` that a field names, or none where the value lies outside 0 to n − 1. -/
def fin? (n : Nat) (v : Int) : Option (Fin n) :=
  if h : v.toNat < n then (if 0 ≤ v then some ⟨v.toNat, h⟩ else none) else none

/-- Interpolation in a table of (abscissa, ordinate) points in ascending order (R51, R113, R150): below the first
point its ordinate, at or above the last point its ordinate, and between points k and k + 1 the ordinate of k plus
the increment formed exactly and truncated toward zero. An empty table gives 0. -/
def interpolate : List (Int × Int) → Int → Int
  | [], _ => 0
  | [(_, y)], _ => y
  | (x0, y0) :: (x1, y1) :: rest, x =>
    if x < x0 then y0
    else if x < x1 then y0 + truncDiv ((y1 - y0) * (x - x0)) (x1 - x0)
    else interpolate ((x1, y1) :: rest) x

/-- A count that stays at its greatest value once there. -/
def saturate (max n : Nat) : Nat := if n ≤ max then n else max

/-- A signed 64-bit quantity: the exact value where it fits, otherwise free (notes/assumptions/5.md). -/
def i64 (v : Int) : Int :=
  if -9223372036854775808 ≤ v ∧ v ≤ 9223372036854775807 then v else (Config.overflowI64 v).toInt

/-- A counter of 0 to 2^63 − 1: the exact value where it fits, otherwise free (notes/assumptions/5.md). -/
def u63 (v : Nat) : Nat := if v ≤ 9223372036854775807 then v else (Config.overflowU63 v).toNat

/-- An unsigned 64-bit quantity: the exact value where it fits, otherwise free (notes/assumptions/5.md). -/
def u64 (v : Nat) : Nat := if v ≤ 18446744073709551615 then v else (Config.overflowU64 v).toNat

/-- An unsigned 32-bit count: the exact value where it fits, otherwise free (notes/assumptions/5.md). -/
def u32 (v : Nat) : Nat := if v ≤ 4294967295 then v else (Config.overflowU32 v).toNat

/-- The least element of a list by `less`, the earlier one on a tie. -/
def pickBest {α : Type} (better : α → α → Bool) : List α → Option α
  | [] => none
  | a :: rest =>
    match pickBest better rest with
    | none => some a
    | some b => if better b a then some b else some a

/-- The newest `n` elements of a list kept oldest first. -/
def lastN {α : Type} (n : Nat) (l : List α) : List α := l.drop (l.length - n)

end Sys2Proof.Machine
end

