-- ==== Sys2Proof/Machine/Params.lean ====
section
/-! DEFINITION. The parameters of the two stored images (R201): the operating parameters of chapters 1, 2, 4, 5, 6,
7, 8 and 10 with the calorific value of chapter 3, and the metrology parameters of Table 3-2, each with its default. -/

namespace Sys2Proof.Machine

/-- AUTO or MANUAL: site control (R1), duty source (Table 5-1), kind of a start queue entry (R96). -/
inductive Control where
  | auto | manual
deriving DecidableEq, Repr

/-- Cavern parameters (Table 1-3). -/
structure CavernParams where
  enabled : Bool
  point : Fin 48
  pMin : Int
  pMax : Int
  maxRate : Int
  injRating : Nat
  wdrRating : Nat
deriving DecidableEq, Repr

/-- The source of a survey point (Table 2-1). `unit` is the wellhead unit's address less one. -/
inductive PointSource where
  | local (input : Fin 16)
  | remote (unit : Fin 6) (device : Fin 8) (register : Fin 32)
deriving DecidableEq, Repr

/-- Reduction mode (R33). -/
inductive Reduction where
  | first | min | max | mean
deriving DecidableEq, Repr

/-- Point configuration (Table 2-1). -/
structure PointConfig where
  enabled : Bool
  source : PointSource
  low : Int
  high : Int
  reduction : Reduction
  avg : Nat
  skips : Nat
  alarmHigh : Int
  alarmLow : Int
  hysteresis : Int
  heldLimit : Nat
  failedLimit : Nat
deriving DecidableEq, Repr

/-- Link parameters (Table 4-1). `failValues u l` is `true` for HIGH. -/
structure LinkParams where
  timeout : Nat
  enabled : Vector Bool 6
  failValues : Vector (Vector Bool 4) 6
deriving DecidableEq, Repr

/-- Unit parameters (Table 5-1). -/
structure UnitParams where
  inService : Bool
  source : Control
  rating : Nat
  level : Nat
deriving DecidableEq, Repr

/-- Duty parameters (Table 5-2). -/
structure DutyParams where
  tStart : Nat
  tCool : Nat
  tHold : Nat
  startLimit : Nat
deriving DecidableEq, Repr

/-- Train parameters (Table 6-1). Each row of `water` is a temperature in 0.01 °C and a content in mg per std m³. -/
structure TrainParams where
  inService : Bool
  rating : Nat
  dewPoint : Fin 48
  inlet : Fin 48
  switchLimit : Int
  specLimit : Int
  capacity : Nat
  water : Vector (Int × Int) 8
deriving DecidableEq, Repr

/-- Dryer parameters (Table 6-2). -/
structure DryerParams where
  tHeat : Nat
  tTcool : Nat
  maxAds : Nat
deriving DecidableEq, Repr

/-- Source form of a protection channel (Table 7-1). -/
inductive SourceForm where
  | pin | line | pointHigh | pointLow | pinOrLine | pinAndLine
deriving DecidableEq, Repr

/-- Class of a protection channel (Table 7-1). -/
inductive ChannelClass where
  | site | equipment | advisory
deriving DecidableEq, Repr

/-- Channel configuration (Table 7-1). A sense is `true` for ACTIVE_HIGH. The target set is a bit field with units
0–3 as bits 0–3, caverns 0–5 as bits 4–9 and trains 0–1 as bits 10–11 (R190). -/
structure ChannelConfig where
  enabled : Bool
  form : SourceForm
  pin : Fin 16
  pinHigh : Bool
  unit : Fin 6
  line : Fin 4
  lineHigh : Bool
  point : Fin 48
  debounce : Nat
  cls : ChannelClass
  targets : BitVec 12
deriving DecidableEq, Repr

/-- One ratchet table (Table 8-1): four points of fill and factor, in parts per million. -/
abbrev Ratchet := Vector (Int × Int) 4

/-- Every operating parameter (section 11.1). -/
structure OpParams where
  siteControl : Control
  tChange : Nat
  caverns : Vector CavernParams 6
  pipelinePoint : Fin 48
  boostMargin : Int
  points : Vector PointConfig 48
  surveyPeriod : Nat
  cv : Nat
  link : LinkParams
  units : Vector UnitParams 4
  duty : DutyParams
  trains : Vector TrainParams 2
  dryer : DryerParams
  channels : Vector ChannelConfig 32
  leadTime : Nat
  ratchetInj : Ratchet
  ratchetWdr : Ratchet
  rateOps : Nat
  rateCom : Nat
  rateMet : Nat
deriving DecidableEq, Repr

/-- Defaults of Table 1-3. -/
def CavernParams.default (i : Fin 6) : CavernParams :=
  { enabled := false, point := ⟨i.val, by omega⟩, pMin := 6000000, pMax := 18000000, maxRate := 1000000,
    injRating := 0, wdrRating := 0 }

/-- Defaults of Table 2-1. -/
def PointConfig.default (i : Fin 48) : PointConfig :=
  { enabled := false, source := .local ⟨i.val % 16, by omega⟩, low := 0, high := 65535, reduction := .first,
    avg := 1, skips := 0, alarmHigh := 2147483647, alarmLow := -2147483648, hysteresis := 0,
    heldLimit := 10, failedLimit := 60 }

/-- Defaults of Table 4-1. -/
def LinkParams.default : LinkParams :=
  { timeout := 100, enabled := Vector.replicate 6 true, failValues := Vector.replicate 6 (Vector.replicate 4 true) }

/-- Defaults of Table 5-1. -/
def UnitParams.default : UnitParams := { inService := true, source := .manual, rating := 250000000, level := 4 }

/-- Defaults of Table 5-2. -/
def DutyParams.default : DutyParams := { tStart := 180, tCool := 300, tHold := 600, startLimit := 3 }

/-- Defaults of Table 6-1. -/
def TrainParams.default (t : Fin 2) : TrainParams :=
  { inService := true, rating := 600000000, dewPoint := ⟨40 + t.val, by omega⟩, inlet := ⟨42 + t.val, by omega⟩,
    switchLimit := -1500, specLimit := -800, capacity := 2000,
    water := #v[(0, 80), (500, 110), (1000, 150), (1500, 200), (2000, 270), (2500, 360), (3000, 470), (3500, 610)] }

/-- Defaults of Table 6-2. -/
def DryerParams.default : DryerParams := { tHeat := 14400, tTcool := 7200, maxAds := 43200 }

/-- Defaults of Table 7-1. -/
def ChannelConfig.default (c : Fin 32) : ChannelConfig :=
  { enabled := false, form := .pin, pin := ⟨c.val % 16, by omega⟩, pinHigh := false, unit := 0, line := 0,
    lineHigh := false, point := 0, debounce := 100, cls := .advisory, targets := 0 }

/-- Defaults of Table 8-1. -/
def Ratchet.default : Ratchet := #v[(0, 1000000), (250000, 1000000), (500000, 1000000), (1000000, 1000000)]

/-- Every operating parameter at its default (R202). -/
def OpParams.default : OpParams :=
  { siteControl := .manual, tChange := 900, caverns := Vector.ofFn CavernParams.default, pipelinePoint := 47,
    boostMargin := 300000, points := Vector.ofFn PointConfig.default, surveyPeriod := 1000, cv := 39600,
    link := LinkParams.default, units := Vector.replicate 4 UnitParams.default, duty := DutyParams.default,
    trains := Vector.ofFn TrainParams.default, dryer := DryerParams.default,
    channels := Vector.ofFn ChannelConfig.default, leadTime := 2, ratchetInj := Ratchet.default,
    ratchetWdr := Ratchet.default, rateOps := 19200, rateCom := 19200, rateMet := 19200 }

/-- The stored line rate of a port (R191). -/
def OpParams.rate (p : OpParams) : Port → Nat
  | .ops => p.rateOps
  | .com => p.rateCom
  | .met => p.rateMet

/-- The parameters with one port's line rate replaced (R191). -/
def OpParams.setRate (p : OpParams) (rate : Nat) : Port → OpParams
  | .ops => { p with rateOps := rate }
  | .com => { p with rateCom := rate }
  | .met => { p with rateMet := rate }

/-- The per-channel metrology parameters of Table 3-2. -/
structure ChannelMetrology where
  kp : Nat
  pPoint : Fin 48
  tPoint : Fin 48
  pFallback : Int
  tFallback : Int
deriving DecidableEq, Repr

/-- Every metrology parameter (Table 3-2). `z` holds the Z table's points, pressure and ratio. -/
structure MetParams where
  channels : Vector ChannelMetrology 8
  pb : Nat
  tb : Nat
  phaseTol : Nat
  singleMin : Nat
  z : Vector (Int × Int) 8
deriving DecidableEq, Repr

/-- Defaults of Table 3-2 for one channel. -/
def ChannelMetrology.default (c : Fin 8) : ChannelMetrology :=
  { kp := 100000, pPoint := ⟨24 + c.val, by omega⟩, tPoint := ⟨32 + c.val, by omega⟩, pFallback := 10000000,
    tFallback := 28815 }

/-- Defaults of Table 3-2. -/
def MetParams.default : MetParams :=
  { channels := Vector.ofFn ChannelMetrology.default, pb := 101325, tb := 27315, phaseTol := 2, singleMin := 10,
    z := Vector.ofFn fun k => (2000000 * ((k.val : Int) + 1), 1000000) }

/-- What the metrology image holds (R206): the parameters, the status (`valid`), the recovery marks and the
calibration of each channel. Site mark n is the mark of the parameter with identifier 5 + n of Table 11-1. -/
structure Metrology where
  params : MetParams
  valid : Bool
  kMarks : BitVec 8
  siteMarks : BitVec 20
  calibrated : BitVec 8
deriving DecidableEq, Repr

/-- The metrology image as R206 stores it when it is found invalid. -/
def Metrology.recovery : Metrology :=
  { params := MetParams.default, valid := false, kMarks := 0, siteMarks := 0, calibrated := 0 }

end Sys2Proof.Machine
end

