-- ==== Sys2Proof/Machine/Codec.lean ====
section
/-! DEFINITION. Bytes of a frame (R183): numbers sent most significant byte first, two's complement, bit fields, the
CRC-16, the field layouts of a payload, and the codes of R184 for the named values of the parameters. -/

namespace Sys2Proof.Machine

/-! ### Numbers -/

/-- `n` bytes of `v`, most significant byte first; the bits above `n` bytes are dropped (R183). -/
def be : Nat → Nat → List Byte
  | 0, _ => []
  | n + 1, v => be n (v / 256) ++ [BitVec.ofNat 8 v]

/-- `n` bytes of a signed number in two's complement (R183). -/
def beInt (n : Nat) (v : Int) : List Byte := be n (v.emod (256 ^ n)).toNat

/-- A value of "none": every bit set (R183). -/
def beNone (n : Nat) : List Byte := List.replicate n 0xFF#8

/-- An optional number, none as every bit set (R183). -/
def beOpt (n : Nat) : Option Nat → List Byte
  | some v => be n v
  | none => beNone n

/-- A gas day number field: signed, and none as 80000000h (R183). -/
def beDay : Option Int → List Byte
  | some d => beInt 4 d
  | none => [0x80#8, 0#8, 0#8, 0#8]

/-- A yes/no or set/clear field: one byte, 0 or 1 (R183). -/
def beBool (b : Bool) : List Byte := [if b then 1#8 else 0#8]

/-- The number that bytes sent most significant byte first make. -/
def natOfBytes (bs : List Byte) : Nat := bs.foldl (fun acc b => acc * 256 + b.toNat) 0

/-- The signed number that bytes in two's complement make. -/
def intOfBytes (bs : List Byte) : Int :=
  let v := natOfBytes bs
  if 2 * v < 256 ^ bs.length then v else (v : Int) - 256 ^ bs.length

/-- A bit field of `n` members as a number: member `i` in bit `i` (R183). -/
def bitsToNat {n : Nat} (v : Vector Bool n) : Nat :=
  (List.finRange n).foldr (fun i acc => (if v[i] then 2 ^ i.val else 0) + acc) 0

/-! ### CRC-16 (R183): polynomial 1021h, initial value FFFFh, most significant bit first -/

/-- One bit of the CRC-16. -/
def crcBit (x : BitVec 16) : BitVec 16 := if x.msb then (x <<< 1) ^^^ 0x1021#16 else x <<< 1

/-- One byte of the CRC-16. -/
def crcByte (crc : BitVec 16) (b : Byte) : BitVec 16 :=
  crcBit (crcBit (crcBit (crcBit (crcBit (crcBit (crcBit (crcBit (crc ^^^ (b.setWidth 16 <<< 8)))))))))

/-- The CRC-16 of this manual over some bytes (R183). -/
def crc16 (bs : List Byte) : BitVec 16 := bs.foldl crcByte 0xFFFF#16

/-! ### Payload layouts -/

/-- A field of a payload: its size in bytes and whether it is signed (R183, R190). -/
inductive Field where
  | u (bytes : Nat)
  | i (bytes : Nat)
deriving DecidableEq, Repr

/-- The size of a field in bytes. -/
def Field.size : Field → Nat
  | .u n => n
  | .i n => n

/-- The value of a field's bytes. -/
def Field.read : Field → List Byte → Int
  | .u _, bs => natOfBytes bs
  | .i _, bs => intOfBytes bs

/-- The bytes of a field's value. -/
def Field.write : Field → Int → List Byte
  | .u n, v => be n v.toNat
  | .i n, v => beInt n v

/-- The values a field can hold. -/
def Field.holds : Field → Int → Bool
  | .u n, v => decide (0 ≤ v) && decide (v < 256 ^ n)
  | .i n, v => decide (-(256 ^ n : Int) ≤ 2 * v) && decide (2 * v < 256 ^ n)

/-- The length of a payload with these fields. -/
def layoutLength (fs : List Field) : Nat := (fs.map Field.size).sum

/-- The values of a payload's fields, "with nothing between them" (R190); none where its length is not theirs. -/
def readFields : List Field → List Byte → Option (List Int)
  | [], [] => some []
  | [], _ :: _ => none
  | f :: fs, bs =>
    if bs.length < f.size then none
    else (readFields fs (bs.drop f.size)).map (f.read (bs.take f.size) :: ·)

/-- The payload that carries these values in these fields (R190). -/
def writeFields : List Field → List Int → List Byte
  | f :: fs, v :: vs => f.write v ++ writeFields fs vs
  | _, _ => []

/-! ### Codes of named values (R184, Table 10-10) -/

/-- AUTO 0, MANUAL 1. -/
def Control.code : Control → Nat
  | .auto => 0
  | .manual => 1

/-- AUTO 0, MANUAL 1. -/
def Control.ofCode (v : Int) : Option Control :=
  if v = 0 then some .auto else if v = 1 then some .manual else none

/-- A two-valued name coded 0 and 1, read as false and true: DISABLED/ENABLED, OUT_OF_SERVICE/IN_SERVICE, LOW/HIGH. -/
def boolOfCode (v : Int) : Option Bool := if v = 0 then some false else if v = 1 then some true else none

/-- FIRST 0, MIN 1, MAX 2, MEAN 3. -/
def Reduction.code : Reduction → Nat
  | .first => 0
  | .min => 1
  | .max => 2
  | .mean => 3

/-- FIRST 0, MIN 1, MAX 2, MEAN 3. -/
def Reduction.ofCode (v : Int) : Option Reduction :=
  if v = 0 then some .first else if v = 1 then some .min else if v = 2 then some .max
  else if v = 3 then some .mean else none

/-- PIN 0, LINE 1, POINT_HIGH 2, POINT_LOW 3, PIN_OR_LINE 4, PIN_AND_LINE 5. -/
def SourceForm.code : SourceForm → Nat
  | .pin => 0
  | .line => 1
  | .pointHigh => 2
  | .pointLow => 3
  | .pinOrLine => 4
  | .pinAndLine => 5

/-- PIN 0, LINE 1, POINT_HIGH 2, POINT_LOW 3, PIN_OR_LINE 4, PIN_AND_LINE 5. -/
def SourceForm.ofCode (v : Int) : Option SourceForm :=
  if v = 0 then some .pin else if v = 1 then some .line else if v = 2 then some .pointHigh
  else if v = 3 then some .pointLow else if v = 4 then some .pinOrLine else if v = 5 then some .pinAndLine else none

/-- Sense: ACTIVE_HIGH 0, ACTIVE_LOW 1; `true` is ACTIVE_HIGH. -/
def senseCode (high : Bool) : Nat := if high then 0 else 1

/-- Sense: ACTIVE_HIGH 0, ACTIVE_LOW 1; `true` is ACTIVE_HIGH. -/
def senseOfCode (v : Int) : Option Bool := if v = 0 then some true else if v = 1 then some false else none

/-- SITE 0, EQUIPMENT 1, ADVISORY 2. -/
def ChannelClass.code : ChannelClass → Nat
  | .site => 0
  | .equipment => 1
  | .advisory => 2

/-- SITE 0, EQUIPMENT 1, ADVISORY 2. -/
def ChannelClass.ofCode (v : Int) : Option ChannelClass :=
  if v = 0 then some .site else if v = 1 then some .equipment else if v = 2 then some .advisory else none

/-- OPS 0, COM 1, MET 2. -/
def portOfCode (v : Int) : Option Port :=
  if v = 0 then some .ops else if v = 1 then some .com else if v = 2 then some .met else none

end Sys2Proof.Machine
end

