-- ==== Sys2Proof/Machine/Image.lean ====
section
/-! DEFINITION. The content of the two stored images as bytes: block by block in the order of the chapters, within a
block in the order of its parameter tables, each indexed record in ascending index (R199), and the image stored with
its CRC-16 (R201). -/

namespace Sys2Proof.Machine

/-- Table 1-3. -/
def CavernParams.bytes (c : CavernParams) : List Byte :=
  beBool c.enabled ++ be 1 c.point.val ++ beInt 4 c.pMin ++ beInt 4 c.pMax ++ beInt 4 c.maxRate ++
    be 8 c.injRating ++ be 8 c.wdrRating

/-- A point source as SET_POINT carries it: source, input or unit, device, register (R190). What is sent for the device and
register of a LOCAL source is left open; 0 is the model's choice (notes/assumptions/30.md). -/
def PointSource.bytes : PointSource → List Byte
  | .local input => be 1 0 ++ be 1 input.val ++ be 1 0 ++ be 1 0
  | .remote unit device register => be 1 1 ++ be 1 (unit.val + 1) ++ be 1 device.val ++ be 1 register.val

/-- Table 2-1. -/
def PointConfig.bytes (c : PointConfig) : List Byte :=
  beBool c.enabled ++ c.source.bytes ++ beInt 4 c.low ++ beInt 4 c.high ++ be 1 c.reduction.code ++ be 1 c.avg ++
    be 1 c.skips ++ beInt 4 c.alarmHigh ++ beInt 4 c.alarmLow ++ beInt 4 c.hysteresis ++ be 4 c.heldLimit ++
    be 4 c.failedLimit

/-- The 24 mirrored-line values of a bit field: line l of unit u is member 4 × (u − 1) + l (R183). -/
def lineBits (v : Vector (Vector Bool 4) 6) : List Byte :=
  be 3 (bitsToNat (n := 24) (Vector.ofFn fun m => v[m.val / 4][m.val % 4]))

/-- Table 4-1. The 24 fail values sent as the bit field in which SET_LINK carries them (R190), and not as 24 bytes of a
named value each (R183), are the model's choice (notes/assumptions/30.md). -/
def LinkParams.bytes (l : LinkParams) : List Byte :=
  be 4 l.timeout ++ (l.enabled.toList.map beBool).flatten ++ lineBits l.failValues

/-- In service of a unit, train or tower: OUT_OF_SERVICE 0, IN_SERVICE 1 (R184). Table 5-1. -/
def UnitParams.bytes (u : UnitParams) : List Byte :=
  beBool u.inService ++ be 1 u.source.code ++ be 8 u.rating ++ be 1 u.level

/-- Table 5-2. -/
def DutyParams.bytes (d : DutyParams) : List Byte := be 4 d.tStart ++ be 4 d.tCool ++ be 4 d.tHold ++ be 1 d.startLimit

/-- Table 6-1. -/
def TrainParams.bytes (t : TrainParams) : List Byte :=
  beBool t.inService ++ be 8 t.rating ++ be 1 t.dewPoint.val ++ be 1 t.inlet.val ++ beInt 4 t.switchLimit ++
    beInt 4 t.specLimit ++ be 4 t.capacity ++ (t.water.toList.map fun w => beInt 4 w.1).flatten ++
    (t.water.toList.map fun w => beInt 4 w.2).flatten

/-- Table 6-2. -/
def DryerParams.bytes (d : DryerParams) : List Byte := be 4 d.tHeat ++ be 4 d.tTcool ++ be 4 d.maxAds

/-- Table 7-1. -/
def ChannelConfig.bytes (c : ChannelConfig) : List Byte :=
  beBool c.enabled ++ be 1 c.form.code ++ be 1 c.pin.val ++ be 1 (senseCode c.pinHigh) ++ be 1 (c.unit.val + 1) ++
    be 1 c.line.val ++ be 1 (senseCode c.lineHigh) ++ be 1 c.point.val ++ be 4 c.debounce ++ be 1 c.cls.code ++
    be 2 c.targets.toNat

/-- Table 8-1: fills 0–3, then factors 0–3 (R199). SET_RATCHET carries them point by point (R190). -/
def Ratchet.bytes (r : Ratchet) : List Byte :=
  (r.toList.map fun p => beInt 4 p.1).flatten ++ (r.toList.map fun p => beInt 4 p.2).flatten

/-- The operating image's content (R199, section 11.1). The survey period (R26) and the lead time (R144) stand in no
parameter table: the period after the points and the lead time before the ratchet tables, of which injection comes first, are
the model's choice (notes/assumptions/30.md). -/
def OpParams.bytes (p : OpParams) : List Byte :=
  (p.caverns.toList.map CavernParams.bytes).flatten ++ be 1 p.siteControl.code ++ be 4 p.tChange ++
    be 1 p.pipelinePoint.val ++ beInt 4 p.boostMargin ++
    (p.points.toList.map PointConfig.bytes).flatten ++ be 4 p.surveyPeriod ++
    be 4 p.cv ++
    p.link.bytes ++
    (p.units.toList.map UnitParams.bytes).flatten ++ p.duty.bytes ++
    (p.trains.toList.map TrainParams.bytes).flatten ++ p.dryer.bytes ++
    (p.channels.toList.map ChannelConfig.bytes).flatten ++
    be 1 p.leadTime ++ Ratchet.bytes p.ratchetInj ++ Ratchet.bytes p.ratchetWdr ++
    be 4 p.rateOps ++ be 4 p.rateCom ++ be 4 p.rateMet

/-- The per-channel part of Table 3-2. -/
def ChannelMetrology.bytes (c : ChannelMetrology) : List Byte :=
  be 4 c.kp ++ be 1 c.pPoint.val ++ be 1 c.tPoint.val ++ beInt 4 c.pFallback ++ beInt 4 c.tFallback

/-- Table 3-2 (R199). -/
def MetParams.bytes (m : MetParams) : List Byte :=
  (m.channels.toList.map ChannelMetrology.bytes).flatten ++ be 4 m.pb ++ be 4 m.tb ++ be 4 m.phaseTol ++
    be 4 m.singleMin ++ (m.z.toList.map fun p => beInt 4 p.1).flatten ++ (m.z.toList.map fun p => beInt 4 p.2).flatten

/-- The metrology image's content: the parameters, the status, the marks and the calibrations (R206). -/
def Metrology.bytes (m : Metrology) : List Byte :=
  m.params.bytes ++ be 1 (if m.valid then 0 else 1) ++ be 1 m.kMarks.toNat ++ be 3 m.siteMarks.toNat ++
    be 1 m.calibrated.toNat

/-- A stored image: its content and the CRC-16 stored with it (R201). -/
structure Image (α : Type) where
  content : α
  crc : BitVec 16
deriving DecidableEq, Repr

/-- The operating image formed afresh over its content (R201). -/
def opImage (p : OpParams) : Image OpParams := { content := p, crc := crc16 p.bytes }

/-- The metrology image formed afresh over its content (R201). -/
def metImage (m : Metrology) : Image Metrology := { content := m, crc := crc16 m.bytes }

/-- The operating image's check at start-up: its content where the CRC-16 matches; none where it does not, or where
the image is blank (R201, R208). -/
def checkOpImage : Option (Image OpParams) → Option OpParams
  | some img => if img.crc = crc16 img.content.bytes then some img.content else none
  | none => none

/-- The metrology image's check at start-up (R201, R208). -/
def checkMetImage : Option (Image Metrology) → Option Metrology
  | some img => if img.crc = crc16 img.content.bytes then some img.content else none
  | none => none

end Sys2Proof.Machine
end

