-- ==== Sys2Proof/Machine/State.lean ====
section
/-! DEFINITION. The state of the SC6 as plain data, block by block (Table 3-1), and the state right after reset. -/

namespace Sys2Proof.Machine

/-! ### Ports (chapters 4 and 10) -/

/-- Answer codes (Table 10-2). -/
inductive AnswerCode where
  | ok | okClamped | accepted | refusedAccess | refusedRange | refusedState | refusedBusy | late | sealed | listFull
  | linkFailed
deriving DecidableEq, Repr

/-- An answer: the tag it echoes, the kind of the request answered, its code, and the content that follows the two
leading payload bytes (R187). -/
structure Answer where
  tag : Byte
  kind : Byte
  code : AnswerCode
  content : List Byte
deriving DecidableEq, Repr

/-- Receive state of a port (R185, R188). -/
inductive Receive where
  | waiting | collecting | sending | held
deriving DecidableEq, Repr

/-- A request whose answer a port in HELD withholds, and that answer once it is ready (R81, R188). -/
structure Withheld where
  tag : Byte
  kind : Byte
  ready : Option Answer
deriving DecidableEq, Repr

/-- A port controller (section 10). `frame` is the frame being collected, as far as commands tell its bytes; in HELD
it says whether one is being collected. `rate` is the line rate in use (R191). `causes` and `mask` are laid out as in
Table 10-4. -/
structure PortState where
  rx : Receive
  frame : Option (List Byte)
  sending : Option Answer
  held : Option Withheld
  causes : BitVec 11
  mask : BitVec 11
  rate : Nat
deriving DecidableEq, Repr

/-- The two ports with remote access (section 4.5). -/
inductive RemotePort where
  | ops | met
deriving DecidableEq, Repr

/-- Answer mode (R79). -/
inductive AnswerMode where
  | hold | early
deriving DecidableEq, Repr

/-- Why a transaction failed (R72, R76). -/
inductive FailCause where
  | timedOut | badReply | cancelled
deriving DecidableEq, Repr

/-- How a transaction ended (R72); a completed READ carries its registers. -/
inductive LinkOutcome where
  | completed (regs : List Reg16)
  | rejected
  | failed (cause : FailCause)
deriving DecidableEq, Repr

/-- A result held for FETCH_REMOTE (R82). `unit` is the address less one. -/
structure RemoteResult where
  isWrite : Bool
  unit : Fin 6
  device : Fin 8
  first : Fin 32
  count : Nat
  outcome : LinkOutcome
deriving DecidableEq, Repr

/-- The result slot (R82). -/
inductive ResultSlot where
  | empty | pending
  | ready (result : RemoteResult)
deriving DecidableEq, Repr

/-- The remote-access state of OPS or MET: staging buffer, answer mode, result slot (R78, R79, R82). -/
structure Remote where
  staging : Vector Reg16 7
  mode : AnswerMode
  slot : ResultSlot
deriving DecidableEq, Repr

/-- The three port controllers. -/
structure Ports where
  ops : PortState
  com : PortState
  met : PortState
  opsRemote : Remote
  metRemote : Remote
deriving DecidableEq, Repr

/-! ### Resets and the time base (chapters 3 and 11) -/

/-- Where a reset stands (R207): in progress, start-up under way, or start-up complete. -/
inductive Phase where
  | inReset | startingUp | running
deriving DecidableEq, Repr

/-- Kinds of reset (R207). -/
inductive ResetKind where
  | powerOn | resetInput | restart
deriving DecidableEq, Repr

/-- How far a RESTART has come (R188): none, its answer being sent, its answer sent. -/
inductive RestartStage where
  | none | answering | due
deriving DecidableEq, Repr

/-- Supply, reset input, start-up and the kind of the last reset (R207). -/
structure Power where
  supply : Bool
  resetInput : Bool
  phase : Phase
  lastReset : ResetKind
  restart : RestartStage
deriving DecidableEq, Repr

/-- The time base (R57 to R59). `lost` is the clock status; `elapsedMs` counts from the completion of start-up;
`openStart`, `openTicks` and `openShort` are the open interval's start instant, its ticks so far and whether it was
opened by start-up or by SET_CLOCK. `hourRaised`: an hour event (R60) has been raised at the present tick and is yet to
be taken. -/
structure TimeBase where
  clock : Nat
  lost : Bool
  elapsedMs : Nat
  openStart : Nat
  openTicks : Nat
  openShort : Bool
  hourRaised : Bool
deriving DecidableEq, Repr

/-! ### Survey scheduler (chapter 2) -/

/-- Quality of a survey point (R36). -/
inductive Quality where
  | unknown | good | held | failed
deriving DecidableEq, Repr

/-- Working state of a survey point (R23). `pos`, `okCount` and `acc` are the round state, `tag` the round tag. -/
structure PointState where
  value : Int
  quality : Quality
  age : Nat
  alarmHigh : Bool
  alarmLow : Bool
  pos : Nat
  okCount : Nat
  acc : Int
  skip : Nat
  tag : Nat
deriving DecidableEq, Repr

/-- The survey scheduler. `outstanding` counts the transactions of the pass in progress; `nextDue` is the next due
instant of the grid in elapsed milliseconds (R26). -/
structure Survey where
  points : Vector PointState 48
  inPass : Bool
  outstanding : Nat
  completed : Nat
  overrun : Nat
  consecutive : Nat
  nextDue : Nat
deriving DecidableEq, Repr

/-! ### Wellhead link (chapter 4) -/

/-- Who offered a transaction (R68). -/
inductive Origin where
  | surveyRead (point : Fin 48) (tag : Nat)
  | surveyPoll
  | port (port : RemotePort) (mode : AnswerMode)
deriving DecidableEq, Repr

/-- A waiting or in-flight transaction (R68). A STATUS leaves device, first and count at 0; `values` are a WRITE's. -/
structure Entry where
  kind : LinkKind
  unit : Fin 6
  device : Fin 8
  first : Fin 32
  count : Nat
  values : List Reg16
  origin : Origin
deriving DecidableEq, Repr

/-- The transaction in flight (R69, R72). `timeout` is the link timeout in force when the attempt was sent; `timer`
is none while the request frame is being transmitted and then the milliseconds remaining. -/
structure Flight where
  entry : Entry
  tag : Byte
  retry : Bool
  timeout : Nat
  timer : Option Nat
deriving DecidableEq, Repr

/-- Health state of a wellhead unit (R74). -/
inductive Health where
  | down | degraded | up
deriving DecidableEq, Repr

/-- Health record of a wellhead unit (R74). -/
structure UnitHealth where
  health : Health
  failures : Nat
deriving DecidableEq, Repr

/-- The wellhead link controller. `settle` is the settle wait's milliseconds remaining; `started` counts the
transactions started since the reset (R69). Lines are `true` for HIGH. -/
structure Link where
  queue : List Entry
  flight : Option Flight
  settle : Option Nat
  started : Nat
  health : Vector UnitHealth 6
  lines : Vector (Vector Bool 4) 6
deriving DecidableEq, Repr

/-! ### Site movement (chapter 1) -/

/-- Site mode (section 1.2). -/
inductive SiteMode where
  | hold | inject | withdraw | changeover | shutdown
deriving DecidableEq, Repr

/-- Wanted mode (section 1.1). -/
inductive Wanted where
  | hold | inject | withdraw
deriving DecidableEq, Repr

/-- Target of a changeover (R6). -/
inductive Target where
  | inject | withdraw
deriving DecidableEq, Repr

/-- A running changeover: its target and the seconds remaining on its timer (R6). -/
structure Changeover where
  target : Target
  seconds : Nat
deriving DecidableEq, Repr

/-- Cavern state (R12). -/
inductive CavernState where
  | disabled | idle | flowing | tripped
deriving DecidableEq, Repr

/-- A cavern record (section 1.5): state, flags, metered inventory, pressure-rate ring (oldest first). -/
structure Cavern where
  state : CavernState
  restricted : Bool
  linkLost : Bool
  pUnknown : Bool
  inventory : Int
  ring : List Int
deriving DecidableEq, Repr

/-- The movement controller. -/
structure Movement where
  mode : SiteMode
  wanted : Wanted
  changeover : Option Changeover
  caverns : Vector Cavern 6
  boost : Bool
deriving DecidableEq, Repr

/-! ### Flow computer (chapter 3) -/

/-- A pulse channel (Table 3-1) with the present levels of its two inputs. -/
structure PulseChannel where
  a : Bool
  b : Bool
  pos : Int
  fwd : Nat
  rev : Nat
  nA : Nat
  nB : Nat
  volFwd : Nat
  volRev : Nat
  enFwd : Nat
  enRev : Nat
deriving DecidableEq, Repr

/-- Kind of an interval record that is not GAP (R58). -/
inductive RecordKind where
  | normal | short
deriving DecidableEq, Repr

/-- One channel's entry in an interval record (R55). The flag set is laid out as in R197. -/
structure ChannelResult where
  fwd : Nat
  rev : Nat
  volFwd : Nat
  volRev : Nat
  energy : Int
  flags : BitVec 11
deriving DecidableEq, Repr

/-- An interval record that is not GAP (Table 3-5). `lost` is the flag CLOCK_LOST. -/
structure IntervalRecord where
  seq : Nat
  kind : RecordKind
  endTime : Nat
  length : Nat
  mode : SiteMode
  lost : Bool
  channels : Vector ChannelResult 8
  eNet : Int
  eFuel : Int
  eRegen : Int
  withdrawal : Nat
deriving DecidableEq, Repr

/-- A record of the interval log: an interval, or a GAP with its end time, the previous end time and the clock status
found at start-up (R65). -/
inductive LogRecord where
  | interval (record : IntervalRecord)
  | gap (seq endTime : Nat) (previousEnd : Option Nat) (lost : Bool)
deriving DecidableEq, Repr

/-- A completed record that the blocks `taking.later` have yet to take (R64, R167). -/
structure Untaken where
  record : IntervalRecord
  taking : Taking
deriving DecidableEq, Repr

/-- The flow computer: pulse channels, interval log (oldest first) and its total count (R66), and the completions that
some block has yet to take, oldest first. -/
structure Flow where
  channels : Vector PulseChannel 8
  log : List LogRecord
  total : Nat
  untaken : List Untaken
deriving DecidableEq, Repr

/-! ### Compressor duty (chapter 5) -/

/-- State of a compressor unit (R85). -/
inductive UnitState where
  | stopped | starting | running | cooldown | tripped | outOfService
deriving DecidableEq, Repr

/-- A compressor unit's working state (R85) with the level of its running-feedback input. The start log is oldest
first. -/
structure CompUnit where
  state : UnitState
  timer : Option Nat
  inhibited : Bool
  runSeconds : Nat
  startLog : List Nat
  feedback : Bool
deriving DecidableEq, Repr

/-- A start queue entry (R96). `level` is the fixed level of a MANUAL entry; an AUTO entry takes its unit's auto
priority level at each selection. -/
structure QueueEntry where
  unit : Fin 4
  kind : Control
  level : Nat
deriving DecidableEq, Repr

/-- The compressor duty controller. The start slot is held by the unit that is STARTING (R97). -/
structure Duty where
  units : Vector CompUnit 4
  queue : List QueueEntry
  demand : Nat
  stopDelay : Option Nat
deriving DecidableEq, Repr

/-! ### Gas drying (chapter 6) -/

/-- State of a dryer train (R107). -/
inductive TrainState where
  | outOfService | standby | inService | offSpec | tripped
deriving DecidableEq, Repr

/-- State of a dryer tower (R108). -/
inductive TowerState where
  | ready | adsorbing | loaded | heating | cooling | outOfService
deriving DecidableEq, Repr

/-- A tower record (R108). -/
structure Tower where
  state : TowerState
  loading : Nat
  adsSeconds : Nat
  pending : Bool
  timer : Option Nat
deriving DecidableEq, Repr

/-- A train record with its two towers: towers 2t and 2t + 1 of train t (R108). -/
structure Train where
  state : TrainState
  dewHigh : Bool
  towers : Vector Tower 2
deriving DecidableEq, Repr

/-- The dryer controller. -/
structure Dryer where
  trains : Vector Train 2
  untreated : Nat
deriving DecidableEq, Repr

/-! ### Protection matrix (chapter 7) -/

/-- A cause of a trip record (R130): channels are 0–31, START_FAIL 32, RUN_LOSS 33, STOP_FAIL 34 (R195). -/
inductive TripCause where
  | channel (c : Fin 32)
  | startFail | runLoss | stopFail
deriving DecidableEq, Repr

/-- The names of the 13 trip records (R130). -/
inductive RecordId where
  | site
  | unit (u : Fin 4)
  | cavern (c : Fin 6)
  | train (t : Fin 2)
deriving DecidableEq, Repr

/-- First-out of a latched record: the cause, the clock and its status at the moment of latching (R130). -/
structure FirstOut where
  cause : TripCause
  clock : Nat
  lost : Bool
deriving DecidableEq, Repr

/-- A trip record (R130). The cause set has cause n in bit n. -/
structure TripRecord where
  latched : Bool
  firstOut : Option FirstOut
  causes : BitVec 35
deriving DecidableEq, Repr

/-- Working state of a protection channel (R125). -/
structure ChannelState where
  source : Bool
  timer : Option Nat
  live : Bool
deriving DecidableEq, Repr

/-- The protection matrix with the present levels of the protection pins. Records stand in the order SITE, UNIT 0–3,
CAVERN 0–5, TRAIN 0–1. -/
structure Protection where
  pins : Vector Bool 16
  channels : Vector ChannelState 32
  records : Vector TripRecord 13
  advisory : BitVec 32
deriving DecidableEq, Repr

/-! ### Nominations (chapter 8) -/

/-- State of a nomination entry (R143). -/
inductive NomState where
  | requested | firm | current
deriving DecidableEq, Repr

/-- A nomination entry (R143). `slot` is the account slot 1–32. -/
structure NomEntry where
  slot : Nat
  hour : Nat
  requested : Int
  clamped : Int
  confirmed : Int
  state : NomState
deriving DecidableEq, Repr

/-- Capacity basis of an hour summary (R143). -/
inductive Basis where
  | effective | potential | none
deriving DecidableEq, Repr

/-- An hour summary (R143). -/
structure Summary where
  hour : Nat
  direction : Int
  basis : Basis
  capacity : Int
  withFlow : Int
  limit : Int
  curtailed : Bool
deriving DecidableEq, Repr

/-- The previous-hour copy: the hour and the confirmed rate of each shipper, slot n at place n − 1 (R143). -/
structure PreviousHour where
  hour : Nat
  rates : Vector Int 32
deriving DecidableEq, Repr

/-- The nomination controller. Entries stand in order of slot and then of hour; `current` is the hour the controller
follows, the first hour of its window; `net` is N (R155); `firm` is F. -/
structure Nominations where
  injPot : Nat
  wdrPot : Nat
  injEff : Nat
  wdrEff : Nat
  entries : List NomEntry
  summaries : List Summary
  firm : Nat
  current : Nat
  previous : Option PreviousHour
  net : Int
  counter : Nat
deriving DecidableEq, Repr

/-! ### Account book (chapter 9) -/

/-- State of an account slot (R159). -/
inductive SlotState where
  | inactive | active | suspended
deriving DecidableEq, Repr

/-- The seven day counters of a slot (Table 9-1). -/
structure DayCounters where
  injected : Nat
  withdrawn : Nat
  fuel : Nat
  drying : Nat
  cut : Nat
  transfersIn : Nat
  transfersOut : Nat
deriving DecidableEq, Repr

/-- An account slot (Table 9-1). Slot 0 keeps space and rights at 0. -/
structure Slot where
  state : SlotState
  space : Nat
  injRight : Nat
  wdrRight : Nat
  inventory : Int
  fuel : Nat
  drying : Nat
  day : DayCounters
deriving DecidableEq, Repr

/-- Day site totals (Table 9-2). -/
structure DayTotals where
  eNet : Int
  eFuel : Int
  eRegen : Int
  records : Nat
  substituted : Nat
deriving DecidableEq, Repr

/-- A day record (R180). -/
structure DayRecord where
  day : Int
  slots : Vector (Int × DayCounters) 33
  totals : DayTotals
deriving DecidableEq, Repr

/-- A present entry of the opening set (R162). -/
structure Staged where
  state : SlotState
  space : Nat
  injRight : Nat
  wdrRight : Nat
  inventory : Nat
deriving DecidableEq, Repr

/-- The account book. Entry n of the opening set is slot n + 1's. Day records stand oldest first. -/
structure Book where
  slots : Vector Slot 33
  openingTotal : Int
  startHour : Nat
  openDay : Option Int
  totals : DayTotals
  dayRecords : List DayRecord
  lastSeq : Nat
  opening : Vector (Option Staged) 32
deriving DecidableEq, Repr

/-! ### Parameter store (chapter 11) -/

/-- An entry of the metrology change list (R204). `param` is the identifier of Table 11-1. -/
structure ChangeEntry where
  clock : Nat
  lost : Bool
  param : Nat
  channel : Option (Fin 8)
  before : Int
  after : Int
deriving DecidableEq, Repr

/-- The parameter store: the stored images (none while blank), the operating image's status, the change list (oldest
first) and the level of the seal input, `true` for OPEN. -/
structure Store where
  opImage : Option (Image OpParams)
  opValid : Bool
  metImage : Option (Image Metrology)
  changeList : List ChangeEntry
  sealOpen : Bool
deriving DecidableEq, Repr

/-! ### Outputs -/

/-- The levels of the output lines (Table 8-1), `true` for active. -/
structure Outputs where
  permissive : Vector Bool 6
  run : Vector Bool 4
  towerSelect : Vector Bool 4
  heater : Vector Bool 2
  attnOps : Bool
  attnCom : Bool
  attnMet : Bool
deriving DecidableEq, Repr

/-- Every output inactive (R207). -/
def Outputs.inactive : Outputs :=
  { permissive := Vector.replicate 6 false, run := Vector.replicate 4 false, towerSelect := Vector.replicate 4 false,
    heater := Vector.replicate 2 false, attnOps := false, attnCom := false, attnMet := false }

end Sys2Proof.Machine

namespace Sys2Proof.Machine

/-- Why the machine stops. It has no constructor: every command of the SC6 has an effect in every state. -/
inductive Fault where
deriving DecidableEq, Repr

/-- Why a command has no meaning. -/
inductive Refusal where
  /-- Raised by an arm of `exec` for a command that has not been modelled; safe: nothing follows from it. No arm of
  this model raises it. -/
  | notModelled (mnemonic : String)
deriving DecidableEq, Repr

/-- The SC6: its blocks (Table 3-1), the parameters in force (`params` operating, `metro` metrology), its outputs and
the queue of commands that wait, first in first out. -/
structure State where
  power : Power
  time : TimeBase
  survey : Survey
  link : Link
  flow : Flow
  move : Movement
  duty : Duty
  dryer : Dryer
  prot : Protection
  nom : Nominations
  book : Book
  ports : Ports
  params : OpParams
  metro : Metrology
  store : Store
  out : Outputs
  pending : List Instr
deriving DecidableEq, Repr

/-! ### Reset values of each block's volatile state -/

/-- The mask of a port after a reset: every cause raised to it by Table 10-4 (R193). -/
def maskAtReset : Port → BitVec 11
  | .ops => 0b10110111111#11
  | .com => 0b10001100000#11
  | .met => 0b11110010000#11

/-- A port controller after a reset (Table 10-9), at a line rate. -/
def PortState.atReset (p : Port) (rate : Nat) : PortState :=
  { rx := .waiting, frame := none, sending := none, held := none, causes := 0, mask := maskAtReset p, rate := rate }

/-- Remote-access state after a reset (Table 4-3). -/
def Remote.atReset : Remote := { staging := Vector.replicate 7 0, mode := .hold, slot := .empty }

/-- The port controllers after a reset, at the stored line rates (R200). -/
def Ports.atReset (p : OpParams) : Ports :=
  { ops := .atReset .ops p.rateOps, com := .atReset .com p.rateCom, met := .atReset .met p.rateMet,
    opsRemote := .atReset, metRemote := .atReset }

/-- A survey point after a reset (Table 2-5). -/
def PointState.atReset : PointState :=
  { value := 0, quality := .unknown, age := 0, alarmHigh := false, alarmLow := false, pos := 0, okCount := 0, acc := 0,
    skip := 0, tag := 0 }

/-- The survey scheduler after a reset (Table 2-5). -/
def Survey.atReset : Survey :=
  { points := Vector.replicate 48 .atReset, inPass := false, outstanding := 0, completed := 0, overrun := 0,
    consecutive := 0, nextDue := 0 }

/-- The link controller after a reset, its mirrored lines at the fail values (Table 4-3). -/
def Link.atReset (p : OpParams) : Link :=
  { queue := [], flight := none, settle := none, started := 0,
    health := Vector.replicate 6 { health := .down, failures := 3 }, lines := p.link.failValues }

/-- A pulse channel after a reset, its inputs at their present levels (R41). -/
def PulseChannel.atReset (a b : Bool) : PulseChannel :=
  { a := a, b := b, pos := 0, fwd := 0, rev := 0, nA := 0, nB := 0, volFwd := 0, volRev := 0, enFwd := 0, enRev := 0 }

/-- A channel after a reset (Table 7-5). -/
def ChannelState.atReset : ChannelState := { source := false, timer := none, live := false }

/-- A trip record after a reset, and after it is cleared (Table 7-5, R138). -/
def TripRecord.clear : TripRecord := { latched := false, firstOut := none, causes := 0 }

/-- Day counters at 0 (R164, R180). -/
def DayCounters.zero : DayCounters :=
  { injected := 0, withdrawn := 0, fuel := 0, drying := 0, cut := 0, transfersIn := 0, transfersOut := 0 }

/-- Day site totals at 0 (R164, R180). -/
def DayTotals.zero : DayTotals := { eNet := 0, eFuel := 0, eRegen := 0, records := 0, substituted := 0 }

/-- A summary of direction 0 and basis NONE (R143, R149, R157). -/
def Summary.blank (h : Nat) : Summary :=
  { hour := h, direction := 0, basis := .none, capacity := 0, withFlow := 0, limit := 0, curtailed := false }

/-- Blank summaries for the 24 hours of a window (R143). -/
def blankWindow (current : Nat) : List Summary :=
  (List.range Config.windowHours).map fun k => Summary.blank (current + k)

/-- An account slot at the SC6's first start-up (R159). -/
def Slot.first (i : Fin 33) : Slot :=
  { state := if i = 0 then .active else .inactive, space := 0, injRight := 0, wdrRight := 0, inventory := 0, fuel := 0,
    drying := 0, day := .zero }

/-- The machine right after reset: the SC6's first power-on, its supply established, its blank images found invalid
(R202, R206), every nonvolatile area created (R208) and start-up not yet complete. The lines it reads are LOW,
INACTIVE and CLOSED, and the backup supply carried no clock (notes/assumptions/3.md). -/
def State.reset : State :=
  { power := { supply := true, resetInput := false, phase := .startingUp, lastReset := .powerOn, restart := .none }
    time := { clock := 0, lost := true, elapsedMs := 0, openStart := 0, openTicks := 0, openShort := true,
              hourRaised := false }
    survey := .atReset
    link := .atReset .default
    flow := { channels := Vector.replicate 8 (.atReset false false), log := [], total := 0, untaken := [] }
    move :=
      { mode := .hold, wanted := .hold, changeover := none,
        caverns := Vector.replicate 6
          { state := .disabled, restricted := false, linkLost := true, pUnknown := true, inventory := 0, ring := [] },
        boost := false }
    duty :=
      { units := Vector.replicate 4
          { state := .stopped, timer := none, inhibited := false, runSeconds := 0, startLog := [], feedback := false },
        queue := [], demand := 0, stopDelay := none }
    dryer :=
      { trains := Vector.replicate 2
          { state := .standby, dewHigh := false,
            towers := Vector.replicate 2 { state := .ready, loading := 0, adsSeconds := 0, pending := false, timer := none } },
        untreated := 0 }
    prot :=
      { pins := Vector.replicate 16 false, channels := Vector.replicate 32 .atReset,
        records := Vector.replicate 13 .clear, advisory := 0 }
    nom :=
      { injPot := 0, wdrPot := 0, injEff := 0, wdrEff := 0, entries := [], summaries := blankWindow 0, firm := 0,
        current := 0, previous := none, net := 0, counter := 0 }
    book :=
      { slots := Vector.ofFn Slot.first, openingTotal := 0, startHour := 6, openDay := none, totals := .zero,
        dayRecords := [], lastSeq := 0, opening := Vector.replicate 32 none }
    ports := .atReset .default
    params := .default
    metro := .recovery
    store :=
      { opImage := none, opValid := false, metImage := some (metImage .recovery), changeList := [], sealOpen := false }
    out := .inactive
    pending := [] }

end Sys2Proof.Machine
end

