-- ==== Sys2Proof/Machine/Operands.lean ====
section
/-! DEFINITION. The operand forms of the requests: kind values and access (Table 10-3), argument layouts and allowed
payload lengths (Table 10-11), and each request's arguments with the ranges its block checks. -/

namespace Sys2Proof.Machine

/-! ### Kinds and access (R189) -/

/-- The kind value of a request (Table 10-3). -/
def kindCode : ReqKind → Nat
  | .readStatus => 0x01
  | .readPoints => 0x02
  | .readIntervals => 0x03
  | .readAccounts => 0x04
  | .readDayRecords => 0x05
  | .readNominations => 0x06
  | .readParameters => 0x07
  | .ackCauses => 0x08
  | .setMask => 0x09
  | .remoteRead => 0x10
  | .remoteWrite => 0x11
  | .writeStaging => 0x12
  | .readStaging => 0x13
  | .setAnswerMode => 0x14
  | .fetchRemote => 0x15
  | .setSiteControl => 0x20
  | .setSiteMode => 0x21
  | .setChangeoverTime => 0x22
  | .setCavern => 0x23
  | .setPipeline => 0x24
  | .setCavernInventory => 0x25
  | .setPoint => 0x28
  | .setSurveyPeriod => 0x29
  | .setLink => 0x2A
  | .startUnit => 0x30
  | .stopUnit => 0x31
  | .setUnit => 0x32
  | .setDuty => 0x33
  | .setRunSeconds => 0x34
  | .setTower => 0x38
  | .setTrain => 0x39
  | .setDryer => 0x3A
  | .setChannel => 0x3C
  | .resetTrip => 0x3D
  | .setCv => 0x40
  | .setClock => 0x41
  | .setLineRate => 0x42
  | .restart => 0x4F
  | .stageOpening => 0x50
  | .openBook => 0x51
  | .setShipper => 0x52
  | .transfer => 0x53
  | .nominate => 0x54
  | .setRatchet => 0x55
  | .setLeadTime => 0x56
  | .resetEntryCounter => 0x57
  | .setMetrology => 0x60
  | .readMetrologyList => 0x61
  | .clearMetrologyList => 0x62

/-- Every kind of Table 10-3, in its order. -/
def allKinds : List ReqKind :=
  [.readStatus, .readPoints, .readIntervals, .readAccounts, .readDayRecords, .readNominations, .readParameters,
   .ackCauses, .setMask] ++
  [.remoteRead, .remoteWrite, .writeStaging, .readStaging, .setAnswerMode, .fetchRemote] ++
  [.setSiteControl, .setSiteMode, .setChangeoverTime, .setCavern, .setPipeline, .setCavernInventory] ++
  [.setPoint, .setSurveyPeriod, .setLink, .startUnit, .stopUnit, .setUnit, .setDuty, .setRunSeconds] ++
  [.setTower, .setTrain, .setDryer, .setChannel, .resetTrip, .setCv, .setClock, .setLineRate, .restart] ++
  [.stageOpening, .openBook, .setShipper, .transfer, .nominate, .setRatchet, .setLeadTime, .resetEntryCounter] ++
  [.setMetrology, .readMetrologyList, .clearMetrologyList]

/-- The kind that a kind value names, if any (Table 10-3). -/
def kindOfCode (n : Nat) : Option ReqKind := allKinds.find? fun k => kindCode k == n

/-- Whether a port may issue a kind (Table 10-3): 01h–09h every port, 10h–15h OPS and MET, 20h–4Fh OPS, 50h–57h COM,
60h–62h MET. -/
def mayIssue (p : Port) (k : ReqKind) : Bool :=
  let n := kindCode k
  if n < 0x10 then true
  else if n < 0x20 then p != .com
  else if n < 0x50 then p == .ops
  else if n < 0x60 then p == .com
  else p == .met

/-! ### Argument layouts (R190) -/

/-- The fields of a kind's payload of a given length; none where the kind does not allow that length (Table 10-11).
WRITE_STAGING and NOMINATE carry a list whose size the length gives. -/
def layout (k : ReqKind) (length : Nat) : Option (List Field) :=
  let exact (fs : List Field) : Option (List Field) := if length = layoutLength fs then some fs else none
  match k with
  | .readIntervals => exact [.u 4]
  | .readDayRecords => exact [.i 4]
  | .readParameters => exact [.u 1]
  | .ackCauses => exact [.u 2]
  | .setMask => exact [.u 2]
  | .remoteRead => exact [.u 1, .u 1, .u 1, .u 1]
  | .remoteWrite => exact [.u 1, .u 1, .u 1, .u 1]
  | .writeStaging =>
    if 3 ≤ length ∧ length ≤ 15 ∧ length % 2 = 1 then some (.u 1 :: List.replicate (length / 2) (.u 2)) else none
  | .setAnswerMode => exact [.u 1]
  | .setSiteControl => exact [.u 1]
  | .setSiteMode => exact [.u 1]
  | .setChangeoverTime => exact [.u 4]
  | .setCavern => exact [.u 1, .u 1, .u 1, .u 4, .u 4, .u 4, .u 8, .u 8]
  | .setPipeline => exact [.u 1, .u 4]
  | .setCavernInventory => exact [.u 1, .i 8]
  | .setPoint =>
    exact [.u 1, .u 1, .u 1, .u 1, .u 1, .u 1, .i 4, .i 4, .u 1, .u 1, .u 1, .i 4, .i 4, .u 4, .u 4, .u 4]
  | .setSurveyPeriod => exact [.u 4]
  | .setLink => exact [.u 4, .u 1, .u 1, .u 1, .u 1, .u 1, .u 1, .u 3]
  | .startUnit => exact [.u 1, .u 1]
  | .stopUnit => exact [.u 1]
  | .setUnit => exact [.u 1, .u 1, .u 1, .u 8, .u 1]
  | .setDuty => exact [.u 4, .u 4, .u 4, .u 1]
  | .setRunSeconds => exact [.u 1, .u 4]
  | .setTower => exact [.u 1, .u 1]
  | .setTrain =>
    exact ([.u 1, .u 1, .u 8, .u 1, .u 1, .i 4, .i 4, .u 4] ++ List.replicate 8 (.i 4) ++ List.replicate 8 (.u 4))
  | .setDryer => exact [.u 4, .u 4, .u 4]
  | .setChannel => exact [.u 1, .u 1, .u 1, .u 1, .u 1, .u 1, .u 1, .u 1, .u 1, .u 4, .u 1, .u 2]
  | .resetTrip => exact [.u 1]
  | .setCv => exact [.u 4]
  | .setClock => exact [.u 4]
  | .setLineRate => exact [.u 1, .u 4]
  | .stageOpening => exact [.u 1, .u 1, .u 8, .u 8, .u 8, .u 8]
  | .openBook => exact [.u 1, .u 1]
  | .setShipper => exact [.u 1, .u 1, .u 8, .u 8, .u 8]
  | .transfer => exact [.u 1, .u 1, .u 8]
  | .nominate =>
    if 13 ≤ length ∧ length ≤ 69 ∧ (length - 5) % 8 = 0 then
      some (.u 1 :: .u 4 :: List.replicate ((length - 5) / 8) (.i 8))
    else none
  | .setRatchet => exact (.u 1 :: List.replicate 8 (.u 4))
  | .setLeadTime => exact [.u 1]
  | .setMetrology => exact [.u 1, .u 1, .i 4]
  | .readStatus | .readPoints | .readAccounts | .readNominations | .readStaging | .fetchRemote | .restart
  | .resetEntryCounter | .readMetrologyList | .clearMetrologyList => exact []

/-- The argument values of a request's payload; none where its length is not one the kind allows (R186, R190). -/
def arguments (k : ReqKind) (payload : List Byte) : Option (List Int) :=
  (layout k payload.length).bind fun fs => readFields fs payload

/-- The payload that carries these argument values. `n` is its length. -/
def payloadOf (k : ReqKind) (n : Nat) (values : List Int) : List Byte :=
  match layout k n with
  | some fs => writeFields fs values
  | none => []

/-! ### Argument checks of each request: none where the request is refused with REFUSED_RANGE -/

/-- HOLD 0, INJECT 1, WITHDRAW 2 (R4). -/
def Wanted.ofCode (v : Int) : Option Wanted :=
  if v = 0 then some .hold else if v = 1 then some .inject else if v = 2 then some .withdraw else none

/-- HOLD 0, EARLY 1 (R79). -/
def AnswerMode.ofCode (v : Int) : Option AnswerMode := if v = 0 then some .hold else if v = 1 then some .early else none

/-- INACTIVE 0, ACTIVE 1, SUSPENDED 2 (R159). -/
def SlotState.ofCode (v : Int) : Option SlotState :=
  if v = 0 then some .inactive else if v = 1 then some .active else if v = 2 then some .suspended else none

/-- SET_CAVERN (R20): the cavern index and its parameters. -/
def cavernArgs : List Int → Option (Fin 6 × CavernParams)
  | [cavern, inService, point, pMin, pMax, maxRate, inj, wdr] => do
    let c ← fin? 6 cavern
    let enabled ← boolOfCode inService
    let p ← fin? 48 point
    if within 100000 30000000 pMin && within 100000 30000000 pMax && decide (pMin < pMax) &&
        within 10000 5000000 maxRate && within 0 4000000000 inj && within 0 4000000000 wdr then
      some (c, { enabled := enabled, point := p, pMin := pMin, pMax := pMax, maxRate := maxRate,
                 injRating := inj.toNat, wdrRating := wdr.toNat })
    else none
  | _ => none

/-- SET_PIPELINE (R21). -/
def pipelineArgs : List Int → Option (Fin 48 × Int)
  | [point, margin] => do
    let p ← fin? 48 point
    if within 0 2000000 margin then some (p, margin) else none
  | _ => none

/-- SET_CAVERN_INVENTORY (R18). -/
def inventoryArgs : List Int → Option (Fin 6 × Int)
  | [cavern, wh] => (fin? 6 cavern).map fun c => (c, wh)
  | _ => none

/-- The source of a survey point as SET_POINT carries it: LOCAL 0 with an input, REMOTE 1 with unit, device and
register (R190). -/
def sourceArgs (source input device register : Int) : Option PointSource :=
  if source = 0 then (fin? 16 input).map .local
  else if source = 1 then do
    let u ← fin? 6 (input - 1)
    let d ← fin? 8 device
    let r ← fin? 32 register
    some (.remote u d r)
  else none

/-- SET_POINT (R25). -/
def pointArgs : List Int → Option (Fin 48 × PointConfig)
  | [point, enable, source, input, device, register, low, high, mode, a, k, aHigh, aLow, hyst, held, failed] => do
    let p ← fin? 48 point
    let enabled ← boolOfCode enable
    let src ← sourceArgs source input device register
    let red ← Reduction.ofCode mode
    if within 1 16 a && within 0 15 k && decide (aLow ≤ aHigh) && within 0 2147483647 hyst && within 2 600 held &&
        within 10 3600 failed && decide (held < failed) then
      some (p, { enabled := enabled, source := src, low := low, high := high, reduction := red, avg := a.toNat,
                 skips := k.toNat, alarmHigh := aHigh, alarmLow := aLow, hysteresis := hyst,
                 heldLimit := held.toNat, failedLimit := failed.toNat })
    else none
  | _ => none

/-- SET_LINK (R77): member 4 × (unit − 1) + line of the last field is a fail value, HIGH where set (R183). -/
def linkArgs : List Int → Option LinkParams
  | [timeout, e1, e2, e3, e4, e5, e6, lines] => do
    let b1 ← boolOfCode e1
    let b2 ← boolOfCode e2
    let b3 ← boolOfCode e3
    let b4 ← boolOfCode e4
    let b5 ← boolOfCode e5
    let b6 ← boolOfCode e6
    if within 20 500 timeout then
      some { timeout := timeout.toNat, enabled := #v[b1, b2, b3, b4, b5, b6],
             failValues := Vector.ofFn fun u => Vector.ofFn fun l => lines.toNat.testBit (4 * u.val + l.val) }
    else none
  | _ => none

/-- START_UNIT (R102): the unit and its priority level. -/
def startArgs : List Int → Option (Fin 4 × Nat)
  | [unit, level] => do
    let u ← fin? 4 unit
    if within 1 15 level then some (u, level.toNat) else none
  | _ => none

/-- A request that names one compressor unit (R103). -/
def unitArgs : List Int → Option (Fin 4)
  | [unit] => fin? 4 unit
  | _ => none

/-- SET_UNIT (R104). -/
def setUnitArgs : List Int → Option (Fin 4 × UnitParams)
  | [unit, inService, source, rating, level] => do
    let u ← fin? 4 unit
    let ins ← boolOfCode inService
    let src ← Control.ofCode source
    if within 1000000 4000000000 rating && within 1 15 level then
      some (u, { inService := ins, source := src, rating := rating.toNat, level := level.toNat })
    else none
  | _ => none

/-- SET_DUTY (R105). -/
def dutyArgs : List Int → Option DutyParams
  | [tStart, tCool, tHold, limit] =>
    if within 60 900 tStart && within 60 1800 tCool && within 60 3600 tHold && within 1 6 limit then
      some { tStart := tStart.toNat, tCool := tCool.toNat, tHold := tHold.toNat, startLimit := limit.toNat }
    else none
  | _ => none

/-- SET_RUN_SECONDS (R87). -/
def runSecondsArgs : List Int → Option (Fin 4 × Nat)
  | [unit, seconds] => (fin? 4 unit).map fun u => (u, seconds.toNat)
  | _ => none

/-- SET_TOWER (R121): the tower and `true` for IN_SERVICE. -/
def towerArgs : List Int → Option (Fin 4 × Bool)
  | [tower, inService] => do
    let t ← fin? 4 tower
    let ins ← boolOfCode inService
    some (t, ins)
  | _ => none

/-- Whether a list is strictly ascending. -/
def ascending : List Int → Bool
  | a :: b :: rest => decide (a < b) && ascending (b :: rest)
  | _ => true

/-- SET_TRAIN (R122). -/
def trainArgs : List Int → Option (Fin 2 × TrainParams)
  | train :: inService :: rating :: dew :: inlet :: switch :: spec :: capacity :: table => do
    let t ← fin? 2 train
    let ins ← boolOfCode inService
    let d ← fin? 48 dew
    let i ← fin? 48 inlet
    let temps := table.take 8
    let contents := table.drop 8
    if within 0 4000000000 rating && within (-6000) 2000 switch && within (-6000) 2000 spec && decide (switch < spec) &&
        within 10 50000 capacity && temps.all (within (-5000) 10000) && contents.all (within 0 100000) &&
        ascending temps then
      some (t, { inService := ins, rating := rating.toNat, dewPoint := d, inlet := i, switchLimit := switch,
                 specLimit := spec, capacity := capacity.toNat,
                 water := Vector.ofFn fun k => (temps.getD k.val 0, contents.getD k.val 0) })
    else none
  | _ => none

/-- SET_DRYER (R123). -/
def dryerArgs : List Int → Option DryerParams
  | [heat, cool, ads] =>
    if within 3600 43200 heat && within 1800 21600 cool && within 3600 172800 ads then
      some { tHeat := heat.toNat, tTcool := cool.toNat, maxAds := ads.toNat }
    else none
  | _ => none

/-- SET_CHANNEL (R129): a set bit 12–15 of the target set lies outside its values (R190). -/
def channelArgs : List Int → Option (Fin 32 × ChannelConfig)
  | [channel, enable, form, pin, pinSense, unit, line, lineSense, point, debounce, cls, targets] => do
    let c ← fin? 32 channel
    let enabled ← boolOfCode enable
    let f ← SourceForm.ofCode form
    let p ← fin? 16 pin
    let ps ← senseOfCode pinSense
    let u ← fin? 6 (unit - 1)
    let l ← fin? 4 line
    let ls ← senseOfCode lineSense
    let pt ← fin? 48 point
    let k ← ChannelClass.ofCode cls
    if within 0 2000 debounce && within 0 4095 targets && !(k == .equipment && decide (targets = 0)) then
      some (c, { enabled := enabled, form := f, pin := p, pinHigh := ps, unit := u, line := l, lineHigh := ls,
                 point := pt, debounce := debounce.toNat, cls := k, targets := BitVec.ofNat 12 targets.toNat })
    else none
  | _ => none

/-- The target of RESET_TRIP (R138): a record, or ADVISORY. -/
inductive ResetTarget where
  | record (r : RecordId)
  | advisory
deriving DecidableEq, Repr

/-- SITE 0, UNIT 0–3 as 1–4, CAVERN 0–5 as 5–10, TRAIN 0–1 as 11–12, ADVISORY 13 (R184). -/
def resetArgs : List Int → Option ResetTarget
  | [target] =>
    if target = 0 then some (.record .site)
    else if target = 13 then some .advisory
    else if within 1 4 target then (fin? 4 (target - 1)).map fun u => .record (.unit u)
    else if within 5 10 target then (fin? 6 (target - 5)).map fun c => .record (.cavern c)
    else if within 11 12 target then (fin? 2 (target - 11)).map fun t => .record (.train t)
    else none
  | _ => none

/-- The line rates a port can take (R191). -/
def lineRates : List Int := [9600, 19200, 38400, 57600, 115200, 230400, 460800]

/-- SET_LINE_RATE (R191). -/
def lineRateArgs : List Int → Option (Port × Nat)
  | [port, rate] => do
    let p ← portOfCode port
    if lineRates.contains rate then some (p, rate.toNat) else none
  | _ => none

/-- State, space and rights within Table 9-1. -/
def slotRange (space inj wdr : Int) : Bool :=
  within 0 1000000000000000 space && within 0 100000000000 inj && within 0 100000000000 wdr

/-- STAGE_OPENING (R162): the shipper's place 0–31 (slot less one) and its staged entry. -/
def stageArgs : List Int → Option (Fin 32 × Staged)
  | [slot, state, space, inj, wdr, inventory] => do
    let i ← fin? 32 (slot - 1)
    let st ← SlotState.ofCode state
    if slotRange space inj wdr && within 0 1000000000000000 inventory then
      some (i, { state := st, space := space.toNat, injRight := inj.toNat, wdrRight := wdr.toNat,
                 inventory := inventory.toNat })
    else none
  | _ => none

/-- The values SET_SHIPPER carries (R165). -/
structure ShipperArgs where
  place : Fin 32
  state : SlotState
  space : Nat
  injRight : Nat
  wdrRight : Nat
deriving DecidableEq, Repr

/-- SET_SHIPPER (R165), its first condition. -/
def shipperArgs : List Int → Option ShipperArgs
  | [slot, state, space, inj, wdr] => do
    let i ← fin? 32 (slot - 1)
    let st ← SlotState.ofCode state
    if slotRange space inj wdr then
      some { place := i, state := st, space := space.toNat, injRight := inj.toNat, wdrRight := wdr.toNat }
    else none
  | _ => none

/-- TRANSFER (R166), its first condition: source slot, destination slot, quantity. -/
def transferArgs : List Int → Option (Fin 33 × Fin 33 × Nat)
  | [a, b, q] => do
    let i ← fin? 33 a
    let j ← fin? 33 b
    if i ≠ j ∧ within 1 1000000000000000 q = true then some (i, j, q.toNat) else none
  | _ => none

/-- NOMINATE (R145), its first condition: slot, first hour, rates. -/
def nominateArgs : List Int → Option (Nat × Nat × List Int)
  | slot :: hour :: rates => if within 1 32 slot then some (slot.toNat, hour.toNat, rates) else none
  | _ => none

/-- The points of a ratchet table from fill and factor in turn. -/
def pairUp : List Int → List (Int × Int)
  | a :: b :: rest => (a, b) :: pairUp rest
  | _ => []

/-- SET_RATCHET (R150): `true` for the withdrawal table, and its points. -/
def ratchetArgs : List Int → Option (Bool × Ratchet)
  | table :: values => do
    let w ← boolOfCode table
    let points := pairUp values
    if values.all (within 0 1000000) && ascending (points.map Prod.fst) then
      some (w, Vector.ofFn fun k => points.getD k.val (0, 0))
    else none
  | _ => none

/-- The addressing of a remote access (R80), its first condition: unit, device, first register, count. -/
def accessArgs : List Int → Option (Fin 6 × Fin 8 × Fin 32 × Nat)
  | [unit, device, first, count] => do
    let u ← fin? 6 (unit - 1)
    let d ← fin? 8 device
    let f ← fin? 32 first
    if within 1 7 count && decide (first + count ≤ 32) then some (u, d, f, count.toNat) else none
  | _ => none

/-- The parameter a SET_METROLOGY names (Table 3-2, identifiers of Table 11-1). -/
inductive MetParam where
  | kp (c : Fin 8) | pPoint (c : Fin 8) | tPoint (c : Fin 8) | pFallback (c : Fin 8) | tFallback (c : Fin 8)
  | pb | tb | phaseTol | singleMin
  | zPressure (k : Fin 8)
  | zRatio (k : Fin 8)
deriving DecidableEq, Repr

/-- The parameter named by an identifier and a channel byte; a channel sent with a site parameter is ignored (R46). -/
def metParam (id channel : Int) : Option MetParam :=
  if id = 0 then (fin? 8 channel).map .kp
  else if id = 1 then (fin? 8 channel).map .pPoint
  else if id = 2 then (fin? 8 channel).map .tPoint
  else if id = 3 then (fin? 8 channel).map .pFallback
  else if id = 4 then (fin? 8 channel).map .tFallback
  else if id = 5 then some .pb
  else if id = 6 then some .tb
  else if id = 7 then some .phaseTol
  else if id = 8 then some .singleMin
  else if within 9 16 id then (fin? 8 (id - 9)).map .zPressure
  else if within 17 24 id then (fin? 8 (id - 17)).map .zRatio
  else none

end Sys2Proof.Machine
end

