-- ==== Sys2Proof/Machine/Flags.lean ====
section
/-! DEFINITION. The flag fields: attention causes and masks (Table 10-4), the flag set of a channel in an interval
record (Table 3-3, R197) and the cause set of a trip record (R130, R195). -/

namespace Sys2Proof.Machine

/-! ### Attention causes (R192) -/

/-- The attention causes of Table 10-4. -/
inductive Cause where
  | trip | tripAdvisory | linkState | pointAlarm | surveyLate | curtailment | dayClosed | remoteDone
  | meteringQuality | listNearlyFull | clockLost
deriving DecidableEq, Repr

/-- The bit of a cause in the cause and mask fields (Table 10-4). -/
def Cause.bit : Cause → Nat
  | .trip => 0
  | .tripAdvisory => 1
  | .linkState => 2
  | .pointAlarm => 3
  | .surveyLate => 4
  | .curtailment => 5
  | .dayClosed => 6
  | .remoteDone => 7
  | .meteringQuality => 8
  | .listNearlyFull => 9
  | .clockLost => 10

/-- The cause set that holds one cause. -/
def Cause.mask (c : Cause) : BitVec 11 := BitVec.ofNat 11 (2 ^ c.bit)

/-- A port with a cause raised; raising one already present leaves it present (R192). -/
def PortState.raise (c : Cause) (p : PortState) : PortState := { p with causes := p.causes ||| c.mask }

/-- A port with a set of causes cleared (R194). -/
def PortState.clearCauses (m : BitVec 11) (p : PortState) : PortState := { p with causes := p.causes &&& ~~~m }

/-- Whether a port's cause set has a cause enabled in its mask (R192). -/
def PortState.attention (p : PortState) : Bool := (p.causes &&& p.mask) != 0

/-- OPS with a cause raised where `b` holds. -/
def Ports.raiseOps (c : Cause) (b : Bool) (p : Ports) : Ports := { p with ops := if b then p.ops.raise c else p.ops }
/-- COM with a cause raised where `b` holds. -/
def Ports.raiseCom (c : Cause) (b : Bool) (p : Ports) : Ports := { p with com := if b then p.com.raise c else p.com }
/-- MET with a cause raised where `b` holds. -/
def Ports.raiseMet (c : Cause) (b : Bool) (p : Ports) : Ports := { p with met := if b then p.met.raise c else p.met }

/-- A port's controller. -/
def Ports.get (p : Ports) : Port → PortState
  | .ops => p.ops
  | .com => p.com
  | .met => p.met

/-- The ports with one controller replaced. -/
def Ports.set (p : Ports) (v : PortState) : Port → Ports
  | .ops => { p with ops := v }
  | .com => { p with com := v }
  | .met => { p with met := v }

/-- The remote-access state of OPS or MET. -/
def Ports.remote (p : Ports) : RemotePort → Remote
  | .ops => p.opsRemote
  | .met => p.metRemote

/-- The ports with the remote-access state of one replaced. -/
def Ports.setRemote (p : Ports) (v : Remote) : RemotePort → Ports
  | .ops => { p with opsRemote := v }
  | .met => { p with metRemote := v }

/-- OPS or MET as one of the three ports. -/
def RemotePort.port : RemotePort → Port
  | .ops => .ops
  | .met => .met

/-- The port as one with remote access; COM has none (section 4.5). -/
def remotePort? : Port → Option RemotePort
  | .ops => some .ops
  | .com => none
  | .met => some .met

/-! ### Flags of a channel in a record (Table 3-3) -/

/-- The flags of Table 3-3. -/
inductive ChannelFlag where
  | phaseFault | singleA | singleB | directionAssumed | reverseIgnored | pHeld | tHeld | pFixed | tFixed | clamped
  | notCalibrated
deriving DecidableEq, Repr

/-- The bit of a flag in the flag set (R197). -/
def ChannelFlag.bit : ChannelFlag → Nat
  | .phaseFault => 0
  | .singleA => 1
  | .singleB => 2
  | .directionAssumed => 3
  | .reverseIgnored => 4
  | .pHeld => 5
  | .tHeld => 6
  | .pFixed => 7
  | .tFixed => 8
  | .clamped => 9
  | .notCalibrated => 10

/-- The flag set that holds one flag where `b` holds, and is empty otherwise. -/
def ChannelFlag.when (f : ChannelFlag) (b : Bool) : BitVec 11 := if b then BitVec.ofNat 11 (2 ^ f.bit) else 0

/-- The flags of class fault, substitution or clamp (Table 3-3): bits 0–9. -/
def qualityFlags : BitVec 11 := 0b01111111111#11

/-- The flags of class substitution (Table 3-3): bits 5–8. -/
def substitutionFlags : BitVec 11 := 0b00111100000#11

/-! ### Cause set of a trip record (R130, R195) -/

/-- The code of a cause: channels 0–31, START_FAIL 32, RUN_LOSS 33, STOP_FAIL 34. -/
def TripCause.code : TripCause → Nat
  | .channel c => c.val
  | .startFail => 32
  | .runLoss => 33
  | .stopFail => 34

/-- The cause set that holds one cause. -/
def TripCause.mask (c : TripCause) : BitVec 35 := BitVec.ofNat 35 (2 ^ c.code)

/-- The place of a record in the order SITE, UNIT 0–3, CAVERN 0–5, TRAIN 0–1 (R195). -/
def RecordId.index : RecordId → Fin 13
  | .site => 0
  | .unit u => ⟨1 + u.val, by omega⟩
  | .cavern c => ⟨5 + c.val, by omega⟩
  | .train t => ⟨11 + t.val, by omega⟩

/-- The record of a name. -/
def Protection.record (p : Protection) (r : RecordId) : TripRecord := p.records[r.index]

/-- Whether a record is latched. -/
def Protection.latched (p : Protection) (r : RecordId) : Bool := (p.record r).latched

/-- The matrix with one record replaced. -/
def Protection.setRecord (p : Protection) (r : RecordId) (v : TripRecord) : Protection :=
  { p with records := p.records.set r.index v }

end Sys2Proof.Machine
end

