-- ==== Sys2Proof/Machine/Dryer.lean ====
section
/-! DEFINITION. The shared operations of the dryer controller (chapter 6), each on one train record with its two
towers: the train's derivation, the switch, heating, trips and water loading. -/

namespace Sys2Proof.Machine

/-- What a train reads: whether its own or the site trip record is latched, whether the site mode is WITHDRAW, its
parameters and the dryer parameters. -/
structure TrainEnv where
  tripped : Bool
  withdraw : Bool
  params : TrainParams
  dryer : DryerParams
deriving DecidableEq, Repr

/-- The other tower of the same train (R108). -/
def partner (i : Fin 2) : Fin 2 := if i = 0 then 1 else 0

/-- Whether a train is TRIPPED or OUT_OF_SERVICE (R119). -/
def TrainState.isHeld : TrainState → Bool
  | .tripped | .outOfService => true
  | _ => false

/-- Whether a train is IN_SERVICE or OFF_SPEC: a drying train (R113). -/
def TrainState.isDrying : TrainState → Bool
  | .inService | .offSpec => true
  | _ => false

/-- Whether some tower of a train is in a state. -/
def Train.has (t : Train) (st : TowerState) : Bool := t.towers[0].state == st || t.towers[1].state == st

/-- The lowest-index tower in a state. -/
def Train.find (t : Train) (st : TowerState) : Option (Fin 2) :=
  if t.towers[0].state == st then some 0 else if t.towers[1].state == st then some 1 else none

/-- A train with one tower replaced. -/
def Train.setTower (t : Train) (i : Fin 2) (v : Tower) : Train := { t with towers := t.towers.set i v }

/-- A train is available while it is neither OUT_OF_SERVICE, TRIPPED nor OFF_SPEC and a tower is ADSORBING or READY
(R111). -/
def Train.available (t : Train) : Bool :=
  !t.state.isHeld && t.state != .offSpec && (t.has .adsorbing || t.has .ready)

/-- A LOADED tower starts HEATING whenever its partner is neither HEATING nor COOLING and its train is neither
TRIPPED nor OUT_OF_SERVICE, the lower-index one where both are LOADED (R117). -/
def Train.startHeating (e : TrainEnv) (t : Train) : Train :=
  if t.state.isHeld || t.has .heating || t.has .cooling then t
  else match t.find .loaded with
    | none => t
    | some i => t.setTower i { t.towers[i] with state := .heating, timer := some e.dryer.tHeat }

/-- The switch of R115: the READY partner of tower `i` becomes ADSORBING, tower `i` becomes LOADED and starts HEATING
by R117, DEW_HIGH is cleared. -/
def Train.switch (e : TrainEnv) (i : Fin 2) (t : Train) : Train :=
  let t1 := t.setTower (partner i)
    { t.towers[partner i] with state := .adsorbing, adsSeconds := 0, pending := false, timer := none }
  let t2 := t1.setTower i { t1.towers[i] with state := .loaded, pending := false, timer := none }
  Train.startHeating e { t2 with dewHigh := false }

/-- Whether the switch demand of an ADSORBING tower holds (R115). -/
def Train.demand (e : TrainEnv) (t : Train) (w : Tower) : Bool :=
  decide (e.params.capacity * 1000000 ≤ w.loading) || decide (e.dryer.maxAds ≤ w.adsSeconds) || t.dewHigh

/-- The evaluation of the switch demand of a drying train's ADSORBING tower (R115). -/
def Train.evalSwitch (e : TrainEnv) (t : Train) : Train :=
  if t.state.isDrying then
    match t.find .adsorbing with
    | none => t
    | some i =>
      if t.demand e t.towers[i] then
        if t.towers[partner i].state == .ready then t.switch e i
        else t.setTower i { t.towers[i] with pending := true }
      else t.setTower i { t.towers[i] with pending := false }
  else t

/-- The pending switch made when the partner of a tower with switch-pending set becomes READY (R116). It is the whole switch
of R115, so a train that makes it in STANDBY has DEW_HIGH cleared too (step 4); that this, and not R112's "keeps its value
until R110 clears it", holds there is a deduction (notes/assumptions/32.md). -/
def Train.pendingSwitch (e : TrainEnv) (t : Train) : Train :=
  if t.state.isHeld then t
  else match t.find .adsorbing with
    | none => t
    | some i => if t.towers[i].pending && t.towers[partner i].state == .ready then t.switch e i else t

/-- The towers' part of entry into TRIPPED or OUT_OF_SERVICE (R119): HEATING becomes LOADED and its timer is discarded. A
COOLING tower keeps what is left of its timer, which `Train.second` does not count while the train is held. -/
def Tower.hold (w : Tower) : Tower :=
  match w.state with
  | .heating => { w with state := .loaded, timer := none }
  | _ => w

/-- The towers' part of leaving TRIPPED or OUT_OF_SERVICE (R120): a COOLING tower's timer starts afresh. -/
def Tower.release (d : DryerParams) (w : Tower) : Tower :=
  match w.state with
  | .cooling => { w with timer := some d.tTcool }
  | _ => w

/-- Entry into IN_SERVICE (R110). -/
def Train.enterService (e : TrainEnv) (t : Train) : Train :=
  let t1 :=
    if t.has .adsorbing then t
    else match t.find .ready with
      | none => t
      | some i => t.setTower i { t.towers[i] with state := .adsorbing, adsSeconds := 0, pending := false, timer := none }
  Train.evalSwitch e { t1 with dewHigh := false }

/-- The state that the table of R109 gives a train. -/
def Train.derivedState (e : TrainEnv) (t : Train) : TrainState :=
  if e.tripped then .tripped
  else if !e.params.inService then .outOfService
  else if !e.withdraw then .standby
  else if t.state.isDrying then t.state
  else if t.has .adsorbing || t.has .ready then .inService
  else .standby

/-- A train's state derived afresh (R109), with what its entry or return does to the towers (R110, R119, R120) and the
examination of R117. -/
def Train.derive (e : TrainEnv) (t : Train) : Train :=
  let new := t.derivedState e
  let t1 : Train :=
    if !t.state.isHeld && new.isHeld then { t with towers := Vector.ofFn fun i => (t.towers[i]).hold }
    else if t.state.isHeld && !new.isHeld then { t with towers := Vector.ofFn fun i => (t.towers[i]).release e.dryer }
    else t
  let t2 : Train := { t1 with state := new }
  let t3 : Train := if new == .inService && !t.state.isDrying then t2.enterService e else t2
  t3.startHeating e

/-- A train's action on its dew point point (R112), then the evaluation of R115; only while it is drying. -/
def Train.dewAction (e : TrainEnv) (q : Quality) (v : Int) (t : Train) : Train :=
  if t.state.isDrying then
    let t1 : Train :=
      if q = .failed ∨ q = .unknown then { t with dewHigh := false }
      else if v > e.params.specLimit then { t with dewHigh := true, state := .offSpec }
      else if v > e.params.switchLimit then { t with dewHigh := true }
      else { t with dewHigh := false, state := .inService }
    t1.evalSwitch e
  else t

/-- The water content of withdrawn gas (R113). -/
def waterContent (p : TrainParams) (q : Quality) (v : Int) : Int :=
  if q = .good ∨ q = .held then interpolate p.water.toList v
  else (p.water.toList.map Prod.snd).foldl max 0

/-- Water loading added to a drying train's ADSORBING tower, then the evaluation of R115 (R113). -/
def Train.load (e : TrainEnv) (share : Nat) (content : Int) (t : Train) : Train :=
  match t.find .adsorbing with
  | none => t
  | some i =>
    let w := t.towers[i]
    let added := share * content.toNat / 1000
    (t.setTower i { w with loading := saturate Config.loadingMax (w.loading + added) }).evalSwitch e

/-- One whole second of elapsed time at a train (R114, R108): the ADSORBING tower of a drying train gains one
adsorption second and is evaluated by R115; tower timers fall by one, and stand while the train is TRIPPED or
OUT_OF_SERVICE (R119). That a timer started since the last whole second loses a whole one too is the model's choice
(notes/assumptions/31.md). -/
def Train.second (e : TrainEnv) (t : Train) : Train :=
  let t1 : Train :=
    if t.state.isHeld then t
    else { t with towers := Vector.ofFn fun i => { t.towers[i] with timer := (t.towers[i]).timer.map (· - 1) } }
  if t.state.isDrying then
    match t1.find .adsorbing with
    | none => t1
    | some i =>
      let w := t1.towers[i]
      (t1.setTower i { w with adsSeconds := saturate Config.count32Max (w.adsSeconds + 1) }).evalSwitch e
  else t1

/-- What a reset does to a tower: HEATING becomes LOADED, timers are none (R124). -/
def Tower.reset (w : Tower) : Tower :=
  { w with state := if w.state = .heating then .loaded else w.state, timer := none }

/-- A train at the completion of start-up (R124): its state derived by R109 in HOLD with clear records, a COOLING
tower's timer started unless the train is OUT_OF_SERVICE, then R117 examined. Where both towers are LOADED, one of them
made so from HEATING, R124 has that one start again and R117 the lower-index one; the lower index is the model's choice
(notes/assumptions/29.md). -/
def Train.startUp (e : TrainEnv) (t : Train) : Train :=
  let new : TrainState := if e.params.inService then .standby else .outOfService
  let ws : Vector Tower 2 := Vector.ofFn fun i => if new.isHeld then t.towers[i] else (t.towers[i]).release e.dryer
  Train.startHeating e { t with state := new, towers := ws }

end Sys2Proof.Machine
end

