-- ==== Sys2Proof/Machine/Movement.lean ====
section
/-! DEFINITION. What the movement controller derives (chapter 1): cavern flags, availability, contribution and state,
and the boost decision; and the rules of the wanted mode. -/

namespace Sys2Proof.Machine

/-- The wellhead unit that serves a cavern: unit n + 1 for cavern n (section 1.5). -/
def State.unitHealth (s : State) (i : Fin 6) : Health := s.link.health[i].health

/-- The pressure point of a cavern, as published. -/
def State.cavernPoint (s : State) (i : Fin 6) : PointState := s.survey.points[s.params.caverns[i].point]

/-- Whether a quality is UNKNOWN or FAILED. -/
def Quality.isBad : Quality → Bool
  | .unknown | .failed => true
  | _ => false

/-- Whether the cavern's or the site trip record is latched (R12). -/
def State.cavernHeld (s : State) (i : Fin 6) : Bool := s.prot.latched .site || s.prot.latched (.cavern i)

/-- The conditions availability in both directions shares (R14), by the sources of LINK_LOST and P_UNKNOWN (R13). -/
def State.cavernUsable (s : State) (i : Fin 6) : Bool :=
  s.params.caverns[i].enabled && !s.cavernHeld i && s.unitHealth i != .down && !(s.cavernPoint i).quality.isBad

/-- Available for injection (R14). -/
def State.availInj (s : State) (i : Fin 6) : Bool :=
  s.cavernUsable i && decide ((s.cavernPoint i).value < s.params.caverns[i].pMax)

/-- Available for withdrawal (R14). -/
def State.availWdr (s : State) (i : Fin 6) : Bool :=
  s.cavernUsable i && decide (s.params.caverns[i].pMin < (s.cavernPoint i).value)

/-- A rating as RESTRICTED leaves it (R14). -/
def restrictedRating (restricted : Bool) (rating : Nat) : Nat := if restricted then rating / 2 else rating

/-- A cavern's contribution to injection capacity (R14). -/
def State.injContribution (s : State) (i : Fin 6) : Nat :=
  if s.availInj i then restrictedRating s.move.caverns[i].restricted s.params.caverns[i].injRating else 0

/-- A cavern's contribution to withdrawal capacity (R14). -/
def State.wdrContribution (s : State) (i : Fin 6) : Nat :=
  if s.availWdr i then restrictedRating s.move.caverns[i].restricted s.params.caverns[i].wdrRating else 0

/-- A cavern's state by the table of R12. -/
def State.cavernState (s : State) (i : Fin 6) : CavernState :=
  if !s.params.caverns[i].enabled then .disabled
  else if s.cavernHeld i then .tripped
  else if (s.move.mode == .inject && s.availInj i) || (s.move.mode == .withdraw && s.availWdr i) then .flowing
  else .idle

/-- The lowest published pressure among the caverns available for withdrawal (R19). -/
def State.lowestPressure (s : State) : Option Int :=
  (List.finRange 6).foldl
    (fun acc i => if s.availWdr i then
        (match acc with
          | none => some (s.cavernPoint i).value
          | some v => some (min v (s.cavernPoint i).value))
      else acc) none

/-- The boost decision (R19). -/
def State.boostRequired (s : State) : Bool :=
  match s.lowestPressure with
  | none => false
  | some low =>
    let pipe := s.survey.points[s.params.pipelinePoint]
    pipe.quality.isBad || decide (low < pipe.value + s.params.boostMargin)

/-- The cavern records and the boost decision derived afresh (R12, R13, R19). -/
def State.deriveMovement (s : State) : State :=
  { s with move := { s.move with
      caverns := Vector.ofFn fun i =>
        { s.move.caverns[i] with
          linkLost := s.unitHealth i == .down
          pUnknown := (s.cavernPoint i).quality.isBad
          state := s.cavernState i }
      boost := s.boostRequired } }

/-- RESTRICTED after an entry has been appended to the ring (R17). -/
def restrictedAfter (ring : List Int) (maxRate : Int) (restricted : Bool) : Bool :=
  match ring, ring.getLast? with
  | oldest :: _, some newest =>
    if ring.length < Config.ringSize then false
    else
      let d : Int := (newest - oldest).natAbs
      if d > maxRate then true
      else if 100 * d ≤ 80 * maxRate then false
      else restricted
  | _, _ => false

/-- A cavern's action on a completed interval record (R16, R17, R18): `q` and `v` are its pressure point's quality and
published value, `energy` the net energy of its channel. -/
def Cavern.onRecord (maxRate : Int) (q : Quality) (v : Int) (energy : Int) (c : Cavern) : Cavern :=
  let c1 : Cavern :=
    if q.isBad then { c with ring := [], restricted := false }
    else
      let ring := lastN Config.ringSize (c.ring ++ [v])
      { c with ring := ring, restricted := restrictedAfter ring maxRate c.restricted }
  { c1 with inventory := i64 (c1.inventory + energy) }

/-! ### Wanted mode (section 1.1) -/

/-- The wanted mode as a site mode. -/
def Wanted.mode : Wanted → SiteMode
  | .hold => .hold
  | .inject => .inject
  | .withdraw => .withdraw

/-- A changeover's target as a site mode. -/
def Target.mode : Target → SiteMode
  | .inject => .inject
  | .withdraw => .withdraw

/-- Table 1-1: what the site mode and the running changeover become when a wanted mode is applied. `tChange` is
T_change in force (R5, R6). -/
def applyTable (tChange : Nat) (mode : SiteMode) (c : Option Changeover) (w : Wanted) : SiteMode × Option Changeover :=
  match mode, w with
  | .shutdown, _ => (.shutdown, c)
  | _, .hold => (.hold, none)
  | .hold, w => (w.mode, none)
  | .inject, .inject => (.inject, none)
  | .inject, .withdraw => (.changeover, some { target := .withdraw, seconds := tChange })
  | .withdraw, .withdraw => (.withdraw, none)
  | .withdraw, .inject => (.changeover, some { target := .inject, seconds := tChange })
  | .changeover, .inject =>
    (.changeover, if (c.map (·.target)) = some .inject then c else some { target := .inject, seconds := tChange })
  | .changeover, .withdraw =>
    (.changeover, if (c.map (·.target)) = some .withdraw then c else some { target := .withdraw, seconds := tChange })

end Sys2Proof.Machine
end

