-- ==== Sys2Proof/Machine/Duty.lean ====
section
/-! DEFINITION. The shared operations of the compressor duty controller (chapter 5), on its own state: start
inhibition, demand, the start queue and start slot, reconciliation, the stop delay, stops and trips. -/

namespace Sys2Proof.Machine

/-- What the duty controller reads: unit and duty parameters, site mode, boost, N and the clock (chapter 5). -/
structure DutyEnv where
  units : Vector UnitParams 4
  duty : DutyParams
  mode : SiteMode
  boost : Bool
  net : Int
  clock : Nat
deriving DecidableEq, Repr

/-- Whether the site mode stops every unit: CHANGEOVER or SHUTDOWN (R101). -/
def SiteMode.stopsUnits : SiteMode → Bool
  | .changeover | .shutdown => true
  | _ => false

/-- The number of recent entries of a start log (R94). -/
def recentStarts (clock : Nat) (log : List Nat) : Nat := log.countP fun t => decide (clock < t + Config.recentSeconds)

/-- The start-inhibited flag (R94). -/
def CompUnit.inhibition (clock limit : Nat) (u : CompUnit) : Bool :=
  u.state == .stopped && decide (limit ≤ recentStarts clock u.startLog)

/-- Availability of a unit (R95). -/
def CompUnit.available (u : CompUnit) : Bool :=
  match u.state with
  | .stopped => !u.inhibited
  | .starting | .running => true
  | _ => false

/-- Every unit's start-inhibited flag evaluated (R94). -/
def Duty.evalInhibit (clock limit : Nat) (d : Duty) : Duty :=
  { d with units := Vector.ofFn fun i => { d.units[i] with inhibited := (d.units[i]).inhibition clock limit } }

/-- A controller with one unit replaced. -/
def Duty.setUnit (d : Duty) (i : Fin 4) (u : CompUnit) : Duty := { d with units := d.units.set i u }

/-- The four unit indices. -/
def unitIndices : List (Fin 4) := List.finRange 4

/-- Whether a unit's duty source is AUTO. -/
def DutyEnv.isAuto (e : DutyEnv) (i : Fin 4) : Bool := e.units[i].source == .auto

/-- The lowest rating among the AUTO units, if there is one (R98). -/
def DutyEnv.lowestRating (e : DutyEnv) : Option Nat :=
  unitIndices.foldl
    (fun acc i => if e.isAuto i then
        (match acc with
          | none => some e.units[i].rating
          | some r => some (min r e.units[i].rating))
      else acc) none

/-- The demand D (R98). -/
def Duty.demandOf (e : DutyEnv) (d : Duty) : Nat :=
  match e.lowestRating with
  | none => 0
  | some r =>
    let raw :=
      if e.mode = .inject ∧ 0 < e.net then ceilDiv e.net.toNat r
      else if e.mode = .withdraw ∧ e.boost = true ∧ e.net < 0 then ceilDiv (-e.net).toNat r
      else 0
    min raw (unitIndices.countP fun i => e.isAuto i && (d.units[i]).available)

/-- M: AUTO units that are STARTING or RUNNING (R99). -/
def Duty.active (e : DutyEnv) (d : Duty) : Nat :=
  unitIndices.countP fun i => e.isAuto i && (d.units[i].state == .starting || d.units[i].state == .running)

/-- E: all AUTO entries in the queue (R99). -/
def Duty.autoEntries (d : Duty) : Nat := d.queue.countP fun q => q.kind == .auto

/-- Q: AUTO entries whose units are not start-inhibited (R99). -/
def Duty.autoReady (d : Duty) : Nat := d.queue.countP fun q => q.kind == .auto && !d.units[q.unit].inhibited

/-- Whether a unit has a queue entry. -/
def Duty.queued (d : Duty) (i : Fin 4) : Bool := d.queue.any fun q => q.unit == i

/-- The unit that holds the start slot (R97). -/
def Duty.slotHolder (d : Duty) : Option (Fin 4) := unitIndices.find? fun i => d.units[i].state == .starting

/-- The level of an entry: an AUTO entry's is its unit's auto priority level, read at each selection (R96). -/
def DutyEnv.level (e : DutyEnv) (q : QueueEntry) : Nat :=
  match q.kind with
  | .auto => e.units[q.unit].level
  | .manual => q.level

/-- Whether entry `a` is chosen before entry `b` (R97): highest level, lowest run seconds, lowest unit index. -/
def Duty.before (e : DutyEnv) (d : Duty) (a b : QueueEntry) : Bool :=
  let la := e.level a
  let lb := e.level b
  let ra := d.units[a.unit].runSeconds
  let rb := d.units[b.unit].runSeconds
  decide (lb < la) || (la == lb && (decide (ra < rb) || (ra == rb && decide (a.unit < b.unit))))

/-- The start slot handed to a unit (R88): it leaves the queue, its start is logged, and it enters STARTING, or goes on
to RUNNING where its feedback is already ACTIVE. -/
def Duty.handTo (e : DutyEnv) (i : Fin 4) (d : Duty) : Duty :=
  let u := d.units[i]
  let u1 : CompUnit :=
    { u with state := if u.feedback then .running else .starting
             timer := if u.feedback then none else some e.duty.tStart
             inhibited := false
             startLog := lastN Config.startLogSize (u.startLog ++ [e.clock]) }
  { (d.setUnit i u1) with queue := d.queue.filter fun q => q.unit != i }

/-- The start slot handed, while it is free, to eligible entries in turn (R97); four units can take it at most. -/
def Duty.handSlots (e : DutyEnv) : Nat → Duty → Duty
  | 0, d => d
  | n + 1, d =>
    if d.slotHolder.isSome || e.mode.stopsUnits then d
    else match pickBest (d.before e) (d.queue.filter fun q => !d.units[q.unit].inhibited) with
      | none => d
      | some q => Duty.handSlots e n (d.handTo e q.unit)

/-- The AUTO unit that joins the queue next (R99): STOPPED, not start-inhibited, not queued; lowest run seconds, then
lowest index. -/
def Duty.nextToJoin (e : DutyEnv) (d : Duty) : Option (Fin 4) :=
  pickBest (fun a b => decide (d.units[a].runSeconds < d.units[b].runSeconds))
    (unitIndices.filter fun i => e.isAuto i && d.units[i].state == .stopped && !d.units[i].inhibited && !d.queued i)

/-- `n` AUTO units join the queue one after the other, each of which may take the slot at once (R99, R97). -/
def Duty.enqueue (e : DutyEnv) : Nat → Duty → Duty
  | 0, d => d
  | n + 1, d =>
    match d.nextToJoin e with
    | none => d
    | some i =>
      Duty.enqueue e n
        (Duty.handSlots e 4 { d with queue := d.queue ++ [{ unit := i, kind := .auto, level := e.units[i].level }] })

/-- Whether queued AUTO entry `a` is removed as surplus before entry `b` (R99): start-inhibited first, then highest run
seconds, then highest index. R99 orders only the entries that are not start-inhibited; the same order among those that are is
the model's choice (notes/assumptions/29.md). -/
def Duty.surplusBefore (d : Duty) (a b : QueueEntry) : Bool :=
  let ia := d.units[a.unit].inhibited
  let ib := d.units[b.unit].inhibited
  let ra := d.units[a.unit].runSeconds
  let rb := d.units[b.unit].runSeconds
  (ia && !ib) || (ia == ib && (decide (rb < ra) || (ra == rb && decide (b.unit < a.unit))))

/-- `n` queued AUTO entries removed as surplus (R99). -/
def Duty.removeSurplus : Nat → Duty → Duty
  | 0, d => d
  | n + 1, d =>
    match pickBest d.surplusBefore (d.queue.filter fun q => q.kind == .auto) with
    | none => d
    | some q => Duty.removeSurplus n { d with queue := d.queue.filter fun x => x.unit != q.unit }

/-- Reconciliation (R99): enqueue, then surplus removal. -/
def Duty.reconcile (e : DutyEnv) (d : Duty) : Duty :=
  let d1 := Duty.enqueue e (d.demand - (d.active e + d.autoReady)) d
  Duty.removeSurplus (d1.active e + d1.autoEntries - d1.demand) d1

/-- The stop delay check (R100): the timer starts at T_hold when M comes to exceed D, runs on while it does, and is
discarded when M falls to D or below. -/
def Duty.checkStopDelay (e : DutyEnv) (d : Duty) : Duty :=
  if d.active e > d.demand then { d with stopDelay := some (d.stopDelay.getD e.duty.tHold) }
  else { d with stopDelay := none }

/-- The controller's reaction to any change of what it reads or holds: demand recomputed (R98), reconciliation (R99),
the start slot (R97) and the stop delay check (R100). Where one command frees the slot, or makes a queued entry eligible
while the slot is free, and makes an AUTO entry join too, R97 leaves either order open; the join first is the model's choice,
and so is the removal of surplus AUTO entries before the slot is handed (notes/assumptions/29.md). -/
def Duty.react (e : DutyEnv) (d : Duty) : Duty :=
  let d1 : Duty := { d with demand := d.demandOf e }
  let d2 := d1.reconcile e
  let d3 := Duty.handSlots e 4 d2
  d3.checkStopDelay e

/-- A stop (R91): a STARTING or RUNNING unit goes to COOLDOWN with its timer at T_cool; others stay as they are. -/
def CompUnit.stop (tCool : Nat) (u : CompUnit) : CompUnit :=
  match u.state with
  | .starting | .running => { u with state := .cooldown, timer := some tCool }
  | _ => u

/-- A trip latch at a unit (R92): TRIPPED from every state except OUT_OF_SERVICE, its timer discarded. -/
def CompUnit.trip (u : CompUnit) : CompUnit :=
  match u.state with
  | .outOfService => u
  | _ => { u with state := .tripped, timer := none, inhibited := false }

/-- CHANGEOVER or SHUTDOWN entered (R101): every unit takes a stop, the queue is emptied, the stop delay discarded. -/
def Duty.stopAll (tCool : Nat) (d : Duty) : Duty :=
  { d with units := Vector.ofFn fun i => (d.units[i]).stop tCool, queue := [], stopDelay := none }

/-- A latch of one unit's record (R92): the unit trips and its queue entry is removed. -/
def Duty.tripUnit (i : Fin 4) (d : Duty) : Duty :=
  { (d.setUnit i (d.units[i]).trip) with queue := d.queue.filter fun q => q.unit != i }

/-- A latch of the site record (R92): every unit trips and the queue is emptied. -/
def Duty.tripAll (d : Duty) : Duty := { d with units := Vector.ofFn fun i => (d.units[i]).trip, queue := [] }

/-- A TRIPPED unit enters STOPPED when both its records are clear (R92). -/
def CompUnit.release (u : CompUnit) : CompUnit :=
  match u.state with
  | .tripped => { u with state := .stopped, timer := none }
  | _ => u

/-- The unit that the stop delay's expiry stops (R100): the RUNNING AUTO unit with the highest run seconds, ties to the
highest index; where there is none, the STARTING AUTO unit. -/
def Duty.surplusUnit (e : DutyEnv) (d : Duty) : Option (Fin 4) :=
  match pickBest (fun a b => decide (d.units[b].runSeconds < d.units[a].runSeconds) ||
      (d.units[a].runSeconds == d.units[b].runSeconds && decide (b < a)))
      (unitIndices.filter fun i => e.isAuto i && d.units[i].state == .running) with
  | some i => some i
  | none => unitIndices.find? fun i => e.isAuto i && d.units[i].state == .starting

/-- One whole second of elapsed time at the units (R85, R87, R100): timers fall by one and a RUNNING unit's run
seconds rise by one. That a timer started since the last whole second loses a whole one too is the model's choice
(notes/assumptions/31.md). -/
def Duty.second (d : Duty) : Duty :=
  { d with
    units := Vector.ofFn fun i =>
      let u := d.units[i]
      { u with timer := u.timer.map (· - 1)
               runSeconds := if u.state = .running then saturate Config.count32Max (u.runSeconds + 1) else u.runSeconds }
    stopDelay := d.stopDelay.map (· - 1) }

end Sys2Proof.Machine
end

