-- ==== Sys2Proof/Machine/Nominate.lean ====
section
/-! DEFINITION. The shared operations of the nomination controller (chapter 8): capacity, clamping, confirmation, the
window of hours and the comparison that raises CURTAILMENT. -/

namespace Sys2Proof.Machine

/-! ### Capacity (R141, R142) -/

/-- The sum of the ratings of the available compressor units. -/
def State.unitCapacity (s : State) : Nat :=
  (unitIndices.map fun i => if (s.duty.units[i]).available then s.params.units[i].rating else 0).sum

/-- The sum of the ratings of the available dryer trains. -/
def State.trainCapacity (s : State) : Nat :=
  ((List.finRange 2).map fun t => if (s.dryer.trains[t]).available then s.params.trains[t].rating else 0).sum

/-- INJ_POT (R141). -/
def State.injPotential (s : State) : Nat :=
  min ((List.finRange 6).map s.injContribution).sum s.unitCapacity

/-- WDR_POT (R141): the units count only while boost is required. -/
def State.wdrPotential (s : State) : Nat :=
  let m := min ((List.finRange 6).map s.wdrContribution).sum s.trainCapacity
  if s.boostRequired then min m s.unitCapacity else m

/-- The four capacity figures, in the order INJ_POT, WDR_POT, INJ_EFF, WDR_EFF (R141, R142). -/
def State.figures (s : State) : Nat × Nat × Nat × Nat :=
  (s.injPotential, s.wdrPotential,
   if s.move.mode = .inject then s.injPotential else 0, if s.move.mode = .withdraw then s.wdrPotential else 0)

/-! ### Clamping (R150, R151) -/

/-- A shipper's fill in parts per million (R151). -/
def fill (sl : Slot) : Int := if sl.space = 0 then 0 else floorDiv (sl.inventory * 1000000) sl.space

/-- A right scaled by a ratchet factor read at a fill (R150, R151). -/
def scaledRight (r : Ratchet) (x : Int) (right : Nat) : Int := floorDiv (right * interpolate r.toList x) 1000000

/-- The clamped rate of a requested rate (R151). -/
def clampRate (inj wdr : Ratchet) (sl : Slot) (r : Int) : Int :=
  match sl.state with
  | .active =>
    if 0 < r then min r (scaledRight inj (fill sl) sl.injRight)
    else -(min (-r) (scaledRight wdr (fill sl) sl.wdrRight))
  | .suspended | .inactive => 0

/-! ### Confirmation (R152, R153) -/

/-- The sign of a number: +1, −1 or 0. -/
def sign (v : Int) : Int := if 0 < v then 1 else if v < 0 then -1 else 0

/-- The sum of the magnitudes of the rates that have a sign. -/
def magnitudes (d : Int) (rates : List Int) : Int := ((rates.filter fun r => sign r == d).map fun r => (r.natAbs : Int)).sum

/-- The summary of an hour from the clamped rates of its entries (R153). `injCap` and `wdrCap` are the capacity of the
hour in each direction, `basis` says which figures they are. -/
def summarize (h : Nat) (basis : Basis) (injCap wdrCap : Int) (rates : List Int) : Summary :=
  let d := sign rates.sum
  if d = 0 then Summary.blank h
  else
    let cap := if d = 1 then injCap else wdrCap
    let tw := magnitudes d rates
    let l := cap + magnitudes (-d) rates
    { hour := h, direction := d, basis := basis, capacity := cap, withFlow := tw, limit := l, curtailed := decide (l < tw) }

/-- The confirmed rate of a clamped rate in an hour with this summary (R153, steps 2 to 5). -/
def confirmRate (sm : Summary) (c : Int) : Int :=
  if sm.direction ≠ 0 ∧ sign c = sm.direction ∧ sm.limit < sm.withFlow then
    sm.direction * floorDiv (c.natAbs * sm.limit) sm.withFlow
  else c

/-- What the nomination controller reads beside its own state (chapter 8): the clock status and the clock's hour, the
account slots and the ratchet tables. -/
structure NomEnv where
  lost : Bool
  hour : Nat
  slots : Vector Slot 33
  inj : Ratchet
  wdr : Ratchet
deriving DecidableEq, Repr

/-- A slot by its number; the table holds shipper slots 1–32 alone. -/
def slotOf (slots : Vector Slot 33) (n : Nat) : Slot := if h : n < 33 then slots[n] else slots[0]

/-- The clamped rates of an hour's entries. -/
def hourRates (entries : List NomEntry) (h : Nat) : List Int := (entries.filter fun e => e.hour == h).map (·.clamped)

/-- The summary of an hour at a recomputation: R153, or R149 while the clock is LOST. The current hour is the clock's. -/
def Nominations.summaryOf (n : Nominations) (e : NomEnv) (entries : List NomEntry) (h : Nat) : Summary :=
  if e.lost then Summary.blank h
  else if h = e.hour then summarize h .effective n.injEff n.wdrEff (hourRates entries h)
  else summarize h .potential n.injPot n.wdrPot (hourRates entries h)

/-- N: the sum of the confirmed rates of every CURRENT entry, 0 while the clock is LOST (R155). -/
def netOf (lost : Bool) (entries : List NomEntry) : Int :=
  if lost then 0 else ((entries.filter fun e => e.state == .current).map (·.confirmed)).sum

/-- Whether the table follows another hour than that of a VALID clock: its hour event or its placement is yet to be taken
(R147, R148). -/
def Nominations.behind (n : Nominations) (e : NomEnv) : Bool := !e.lost && n.current != e.hour

/-- Whether an hour of a table that is behind lies outside the clock's window (R143). No recomputation reaches it: the hour
that has just ended keeps its confirmed rates for the previous-hour copy (R147, R155), and the hours passed meanwhile theirs
until the placement removes them (R148; the model's choice, notes/assumptions/11.md). -/
def Nominations.outside (n : Nominations) (e : NomEnv) (h : Nat) : Bool :=
  n.behind e && (decide (h < e.hour) || decide (e.hour + 23 < h))

/-- The recomputation of the hours that `which` selects (R154): clamped rates, summaries, confirmed rates and N. A table that
is behind publishes no N, since its CURRENT entries are not the current hour's (R155; notes/assumptions/11.md). -/
def Nominations.recompute (e : NomEnv) (which : Nat → Bool) (n : Nominations) : Nominations :=
  let sel (h : Nat) : Bool := which h && !n.outside e h
  let clampedEntries := n.entries.map fun x =>
    if sel x.hour then { x with clamped := clampRate e.inj e.wdr (slotOf e.slots x.slot) x.requested } else x
  let entries := clampedEntries.map fun x =>
    if sel x.hour then
      { x with confirmed := if e.lost then 0 else confirmRate (n.summaryOf e clampedEntries x.hour) x.clamped }
    else x
  { n with
    entries := entries
    summaries := n.summaries.map fun sm => if sel sm.hour then n.summaryOf e clampedEntries sm.hour else sm
    net := if n.behind e then n.net else netOf e.lost entries }

/-- Whether some entry that is FIRM or CURRENT after an event, and existed before it, has another confirmed rate (R156). -/
def curtailmentSeen (before after : List NomEntry) : Bool :=
  after.any fun x => x.state != .requested &&
    before.any fun y => y.slot == x.slot && y.hour == x.hour && y.confirmed != x.confirmed

/-! ### The window of hours (R143, R147, R148) -/

/-- The state of an entry by its hour (R143). -/
def entryState (current firm hour : Nat) : NomState :=
  if hour = current then .current else if hour ≤ firm then .firm else .requested

/-- Entry states brought into line with R143. -/
def Nominations.align (n : Nominations) : Nominations :=
  { n with entries := n.entries.map fun x => { x with state := entryState n.current n.firm x.hour } }

/-- The confirmed rate of a shipper for an hour in a list of entries, or 0. -/
def confirmedFor (entries : List NomEntry) (slot hour : Nat) : Int :=
  match entries.find? fun x => x.slot == slot && x.hour == hour with
  | some x => x.confirmed
  | none => 0

/-- Steps 1 to 5 of the hour event (R147); `now` is the new hour number. -/
def Nominations.rollHour (now lead : Nat) (n : Nominations) : Nominations :=
  let n1 : Nominations :=
    { n with
      previous := some { hour := now - 1, rates := Vector.ofFn fun i => confirmedFor n.entries (i.val + 1) (now - 1) }
      entries := n.entries.filter fun x => decide (now ≤ x.hour)
      firm := max n.firm (now + lead)
      current := now
      summaries := (blankWindow now).map fun b => (n.summaries.find? fun sm => sm.hour == b.hour).getD b }
  n1.align

/-- Steps 1 to 5 of a placement (R148). -/
def Nominations.place (now lead : Nat) (n : Nominations) : Nominations :=
  let n1 : Nominations :=
    { n with
      previous := none
      entries := n.entries.filter fun x => decide (now ≤ x.hour) && decide (x.hour ≤ now + 23)
      firm := min (max n.firm (now + lead)) (now + 23)
      current := now
      summaries := blankWindow now }
  n1.align

/-- The published hour direction (R152): that of the current hour's summary; 0 while the clock is LOST or where the
window holds no summary for the hour. -/
def State.hourDirection (s : State) : Int :=
  if s.time.lost then 0
  else match s.nom.summaries.find? fun sm => sm.hour == s.time.clock / 3600 with
    | some sm => sm.direction
    | none => 0

/-- The confirmed rate of a shipper that an allocation reads for a record's hour (R155). -/
def Nominations.rateFor (n : Nominations) (slot hour : Nat) : Int :=
  match n.entries.find? fun x => x.slot == slot && x.hour == hour && x.state == .current with
  | some x => x.confirmed
  | none =>
    match n.previous with
    | some p => if p.hour = hour ∧ 1 ≤ slot then p.rates.toList.getD (slot - 1) 0 else 0
    | none => 0

/-- An entry stored in order of slot and then of hour, replacing one of the same slot and hour (R145). -/
def storeEntry (e : NomEntry) : List NomEntry → List NomEntry
  | [] => [e]
  | x :: rest =>
    if e.slot = x.slot ∧ e.hour = x.hour then e :: rest
    else if e.slot < x.slot ∨ (e.slot = x.slot ∧ e.hour < x.hour) then e :: x :: rest
    else x :: storeEntry e rest

end Sys2Proof.Machine
end

