-- ==== Sys2Proof/Machine/Book.lean ====
section
/-! DEFINITION. The shared operations of the account book (chapter 9): the largest-remainder split, the allocation of
an interval record, losses, day counters and the gas-day close. -/

namespace Sys2Proof.Machine

/-! ### The largest-remainder split (R171) -/

/-- One slot's part of a split: its share so far, its remainder numerator, and whether it has had a leftover unit. -/
structure Part where
  slot : Fin 33
  share : Nat
  numerator : Nat
  given : Bool
deriving DecidableEq, Repr

/-- Whether a part comes before another when leftover units are handed out: largest remainder numerator, then lowest
slot number (R171). -/
def Part.before (a b : Part) : Bool :=
  decide (b.numerator < a.numerator) || (a.numerator == b.numerator && decide (a.slot < b.slot))

/-- The leftover handed out one unit each (R171, step 3). -/
def handOut : Nat → List Part → List Part
  | 0, ps => ps
  | n + 1, ps =>
    match pickBest Part.before (ps.filter fun p => !p.given) with
    | none => ps
    | some b =>
      handOut n (ps.map fun p => if p.slot = b.slot then { p with share := p.share + 1, given := true } else p)

/-- The parts of a split before the leftover is handed out (R171, step 1). -/
def floorParts (total : Nat) (weights : List (Fin 33 × Nat)) : List Part :=
  let sum := (weights.map Prod.snd).sum
  weights.map fun w => { slot := w.1, share := total * w.2 / sum, numerator := total * w.2 % sum, given := false }

/-- The split of a whole amount among slots with positive weights (R171). -/
def splitParts (total : Nat) (weights : List (Fin 33 × Nat)) : List Part :=
  let parts := floorParts total weights
  handOut (total - (parts.map Part.share).sum) parts

/-- A slot's share of a split; 0 for a slot that is not in it. -/
def shareOf (parts : List Part) (i : Fin 33) : Nat :=
  match parts.find? fun p => p.slot == i with
  | some p => p.share
  | none => 0

/-- The 33 slots, lowest first. -/
def slotIndices : List (Fin 33) := List.finRange 33

/-- The slots with a positive weight, each with it. -/
def weightsOf (w : Fin 33 → Nat) : List (Fin 33 × Nat) :=
  (slotIndices.filter fun i => decide (0 < w i)).map fun i => (i, w i)

/-! ### Allocation of a record (R168 to R174) -/

/-- The direction of a record (R168): +1 or −1 by the site mode at close, 0 for none. -/
def directionOf : SiteMode → Int
  | .inject => 1
  | .withdraw => -1
  | _ => 0

/-- The interval quantity of a slot (R168): only an ACTIVE shipper forms one. -/
def intervalQuantity (sl : Slot) (i : Fin 33) (rate : Int) (length : Nat) : Int :=
  if sl.state = .active ∧ i ≠ 0 then truncDiv (rate * length) 3600 else 0

/-- The bound of a slot in the direction of a quantity (R169, R172): its room when injecting, its inventory when
withdrawing. -/
def boundOf (sl : Slot) (q : Int) : Nat :=
  if 0 < q then ((sl.space : Int) - sl.inventory).toNat else sl.inventory.toNat

/-- What a record allocates to a slot, and what is added to its day cut counter. -/
structure Allocation where
  amount : Int
  cut : Nat
deriving DecidableEq, Repr

/-- What the splits of a record need of each slot: its interval quantity and its bound. -/
structure Claim where
  q : Int
  bound : Nat
deriving DecidableEq, Repr

/-- The claim of each slot on a record (R168, R169). -/
def claimsOf (slots : Vector Slot 33) (rates : Vector Int 33) (length : Nat) : Vector Claim 33 :=
  Vector.ofFn fun i =>
    let q := intervalQuantity slots[i] i rates[i] length
    { q := q, bound := boundOf slots[i] q }

/-- A counter-flow shipper's allocation: its interval quantity within its bound (R169). 0 for every other slot. -/
def counterAmount (d : Int) (c : Claim) : Int :=
  if c.q ≠ 0 ∧ sign c.q = -d then sign c.q * (min c.q.natAbs c.bound : Nat) else 0

/-- The weight of a slot in the with-flow split (R172): |q| of a with-flow shipper. -/
def withFlowWeight (d : Int) (c : Claim) : Nat := if c.q ≠ 0 ∧ sign c.q = d then c.q.natAbs else 0

/-- The with-flow split of a pool with its caps and its one redistribution (R172, R173): the magnitude and the cut of
each slot, and what passes to slot 0. -/
def splitPool (d : Int) (pool : Nat) (claims : Vector Claim 33) : Vector (Nat × Nat) 33 × Nat :=
  let first := splitParts pool (weightsOf fun i => withFlowWeight d claims[i])
  let excess (i : Fin 33) : Nat := shareOf first i - (if 0 < withFlowWeight d claims[i] then claims[i].bound else 0)
  let again := (slotIndices.map excess).sum
  let uncapped := weightsOf fun i => if excess i = 0 then withFlowWeight d claims[i] else 0
  let second := if uncapped.isEmpty then [] else splitParts again uncapped
  let wanted (i : Fin 33) : Nat := shareOf first i - excess i + shareOf second i
  let final (i : Fin 33) : Nat := min (wanted i) (if 0 < withFlowWeight d claims[i] then claims[i].bound else 0)
  let overflow := (slotIndices.map fun i => wanted i - final i).sum
  (Vector.ofFn fun i => (final i, excess i), overflow + if uncapped.isEmpty then again else 0)

/-- The allocations of a record in direction `d`, with `eNet` to share (R168 to R173). -/
def allocate (d : Int) (eNet : Int) (claims : Vector Claim 33) : Vector Allocation 33 :=
  if d = 0 then Vector.ofFn fun i => { amount := if i = 0 then eNet else 0, cut := 0 }
  else
    let w : Int := eNet - (slotIndices.map fun i => counterAmount d claims[i]).sum
    let counter (i : Fin 33) : Allocation :=
      { amount := counterAmount d claims[i]
        cut := if claims[i].q ≠ 0 ∧ sign claims[i].q = -d then claims[i].q.natAbs - claims[i].bound else 0 }
    if sign w ≠ d ∨ (slotIndices.all fun i => withFlowWeight d claims[i] == 0) = true then
      Vector.ofFn fun i => if i = 0 then { amount := w, cut := 0 } else counter i
    else
      let split := splitPool d w.natAbs claims
      Vector.ofFn fun i =>
        if i = 0 then { amount := d * split.2, cut := 0 }
        else if 0 < withFlowWeight d claims[i] then { amount := d * split.1[i].1, cut := split.1[i].2 }
        else counter i

/-! ### Losses and counters (R175 to R177) -/

/-- The split of a loss among the slots with a positive weight; whole to slot 0 where there is none (R175, R176). -/
def splitLoss (amount : Nat) (weight : Fin 33 → Nat) (i : Fin 33) : Nat :=
  let ws := weightsOf weight
  if ws.isEmpty then (if i = 0 then amount else 0) else shareOf (splitParts amount ws) i

/-- A slot after a record: its inventory, cumulative losses and day counters (R169, R172, R174 to R177). -/
def Slot.take (a : Allocation) (fuel drying : Nat) (sl : Slot) : Slot :=
  { sl with
    inventory := i64 (sl.inventory + a.amount)
    fuel := u63 (sl.fuel + fuel)
    drying := u63 (sl.drying + drying)
    day := { sl.day with
      injected := u63 (sl.day.injected + a.amount.toNat)
      withdrawn := u63 (sl.day.withdrawn + (-a.amount).toNat)
      fuel := u63 (sl.day.fuel + fuel)
      drying := u63 (sl.day.drying + drying)
      cut := u63 (sl.day.cut + a.cut) } }

/-- The allocations of a record: by R168 to R173, or E_net whole to slot 0 for a CLOCK_LOST record (R167). -/
def recordAllocations (slots : Vector Slot 33) (rates : Vector Int 33) (r : IntervalRecord) : Vector Allocation 33 :=
  if r.lost then Vector.ofFn fun i => { amount := if i = 0 then r.eNet else 0, cut := 0 }
  else allocate (directionOf r.mode) r.eNet (claimsOf slots rates r.length)

/-- The slots after a record has been allocated (R167 to R177). -/
def allocateSlots (rates : Vector Int 33) (r : IntervalRecord) (slots : Vector Slot 33) : Vector Slot 33 :=
  let as := recordAllocations slots rates r
  let fuel (i : Fin 33) : Nat :=
    if r.lost then (if i = 0 then r.eFuel.toNat else 0) else splitLoss r.eFuel.toNat (fun j => as[j].amount.toNat) i
  let drying (i : Fin 33) : Nat :=
    if r.lost then (if i = 0 then r.eRegen.toNat else 0) else splitLoss r.eRegen.toNat (fun j => (-as[j].amount).toNat) i
  Vector.ofFn fun i => (slots[i]).take as[i] (fuel i) (drying i)

/-- Whether any channel of a record carries a substitution flag (R167). -/
def IntervalRecord.substituted (r : IntervalRecord) : Bool :=
  (List.finRange 8).any fun c => (r.channels[c].flags &&& substitutionFlags) != 0

/-- A record entered into the day site totals (R167). -/
def DayTotals.enter (r : IntervalRecord) (t : DayTotals) : DayTotals :=
  { eNet := i64 (t.eNet + r.eNet), eFuel := i64 (t.eFuel + r.eFuel), eRegen := i64 (t.eRegen + r.eRegen),
    records := u32 (t.records + 1), substituted := if r.substituted then u32 (t.substituted + 1) else t.substituted }

/-! ### Gas days (R60, R179, R180) -/

/-- The gas day number of a clock value (R60). -/
def gasDay (startHour clock : Nat) : Int := floorDiv ((clock : Int) - 3600 * startHour) 86400

/-- Whether a clock value lies on a gas-day boundary (R60). -/
def onBoundary (startHour clock : Nat) : Bool := ((clock : Int) - 3600 * startHour).emod 86400 == 0

/-- The close of gas day `day` (R180), without its DAY_CLOSED. -/
def Book.closeDay (day : Int) (b : Book) : Book :=
  { b with
    dayRecords := lastN Config.dayRecordCount
      (b.dayRecords ++ [{ day := day, slots := Vector.ofFn fun i => (b.slots[i].inventory, b.slots[i].day),
                          totals := b.totals }])
    slots := Vector.ofFn fun i => { b.slots[i] with day := .zero }
    totals := .zero }

/-- The gas-day step before an allocation (R179): the book, and whether it closed a day. -/
def Book.beforeAllocation (start : Nat) (b : Book) : Book × Bool :=
  let ds := gasDay b.startHour start
  match b.openDay with
  | none => ({ b with openDay := some ds }, false)
  | some g => if g < ds then ({ (b.closeDay g) with openDay := some ds }, true) else (b, false)

/-- The gas-day step after an allocation (R179): the book, and whether it closed a day. A record whose start lies in an
earlier gas day than the open one closes none, whatever its end (notes/assumptions/24.md). -/
def Book.afterAllocation (start endTime : Nat) (b : Book) : Book × Bool :=
  if onBoundary b.startHour endTime then
    match b.openDay with
    | none => (b, false)
    | some g =>
      if gasDay b.startHour start < g then (b, false)
      else ({ (b.closeDay g) with openDay := some (gasDay b.startHour endTime) }, true)
  else (b, false)

/-- The allocation of a record and its entry into the day site totals (R167). -/
def Book.enter (rates : Vector Int 33) (r : IntervalRecord) (b : Book) : Book :=
  { b with slots := allocateSlots rates r b.slots, totals := b.totals.enter r, lastSeq := r.seq }

/-- The account book takes a completed record that is not GAP (R167, R179): the book, and whether it closed a day. -/
def Book.take (rates : Vector Int 33) (r : IntervalRecord) (b : Book) : Book × Bool :=
  if r.lost then (b.enter rates r, false)
  else
    let (b1, c1) := b.beforeAllocation (r.endTime - r.length)
    let (b2, c2) := (b1.enter rates r).afterAllocation (r.endTime - r.length) r.endTime
    (b2, c1 || c2)

end Sys2Proof.Machine
end

