-- ==== Sys2Proof/Machine/Flow.lean ====
section
/-! DEFINITION. The shared operations of the flow computer (chapter 3): the pulse decoder, the classification of an
interval, the five stages of the flow computation, the K-factor rescale and the interval log. -/

namespace Sys2Proof.Machine

/-! ### The decoder (R42, R43) -/

/-- The place of a pair of levels in the forward order: both low 0, A alone high 1, both high 2, B alone high 3 (R42). -/
def levelPlace : Bool → Bool → Nat
  | false, false => 0
  | true, false => 1
  | true, true => 2
  | false, true => 3

/-- The cycle position and cycle counts after a quarter-step of +1 or −1 (R42). -/
def PulseChannel.quarter (d : Int) (c : PulseChannel) : PulseChannel :=
  let p := c.pos + d
  if p = 4 then { c with pos := 0, fwd := u32 (c.fwd + 1) }
  else if p = -4 then { c with pos := 0, rev := u32 (c.rev + 1) }
  else { c with pos := p }

/-- A channel after its inputs have come to the levels `a` and `b` (R42, R43): one input's change is a quarter-step,
both together are none, and each rising edge counts. -/
def PulseChannel.change (a b : Bool) (c : PulseChannel) : PulseChannel :=
  let step := (levelPlace a b + 4 - levelPlace c.a c.b) % 4
  let c1 := if step = 1 then c.quarter 1 else if step = 3 then c.quarter (-1) else c
  { c1 with
    a := a
    b := b
    nA := if a && !c.a then u32 (c.nA + 1) else c.nA
    nB := if b && !c.b then u32 (c.nB + 1) else c.nB }

/-! ### Classification (R44, R45) -/

/-- The counts a channel takes at a close, with the flags of R44 and R45. -/
structure Taken where
  fwd : Nat
  rev : Nat
  flags : BitVec 11
deriving DecidableEq, Repr

/-- A single-channel count placed on a cavern channel by the site mode at the close (R44). -/
def placeSingle (mode : SiteMode) (n : Nat) (flag : ChannelFlag) : Taken :=
  match mode with
  | .inject => { fwd := n, rev := 0, flags := flag.when true }
  | .withdraw => { fwd := 0, rev := n, flags := flag.when true }
  | .hold | .changeover | .shutdown =>
    { fwd := n, rev := 0, flags := flag.when true ||| ChannelFlag.directionAssumed.when true }

/-- The classification of R44 on a cavern channel. -/
def PulseChannel.classifyCavern (phaseTol singleMin : Nat) (mode : SiteMode) (c : PulseChannel) : Taken :=
  if 1 ≤ c.nA ∧ 1 ≤ c.nB then
    { fwd := c.fwd, rev := c.rev,
      flags := ChannelFlag.phaseFault.when (decide (phaseTol < ((c.nA : Int) - c.nB).natAbs)) }
  else if c.nB = 0 ∧ singleMin ≤ c.nA then placeSingle mode c.nA .singleA
  else if c.nA = 0 ∧ singleMin ≤ c.nB then placeSingle mode c.nB .singleB
  else { fwd := c.fwd, rev := c.rev, flags := 0 }

/-- The classification of channels 6 and 7 (R45): a single-channel count is forward in every mode, and a reverse count
is discarded under REVERSE_IGNORED. -/
def PulseChannel.classifyOneWay (phaseTol singleMin : Nat) (c : PulseChannel) : Taken :=
  let t := c.classifyCavern phaseTol singleMin .inject
  { fwd := t.fwd, rev := 0, flags := t.flags ||| ChannelFlag.reverseIgnored.when (decide (0 < t.rev)) }

/-- Whether a channel meters a cavern line: channels 0–5. -/
def isCavernChannel (i : Fin 8) : Bool := decide (i.val < 6)

/-- The classification of channel `i` (R44, R45). -/
def PulseChannel.classify (m : MetParams) (mode : SiteMode) (i : Fin 8) (c : PulseChannel) : Taken :=
  if isCavernChannel i then c.classifyCavern m.phaseTol m.singleMin mode
  else c.classifyOneWay m.phaseTol m.singleMin

/-! ### The five stages (R50 to R54) -/

/-- Stage 1 (R50), after substitution: the pressure and temperature used, before the clamp, and their flags. -/
structure Inputs where
  p : Int
  t : Int
  flags : BitVec 11
deriving DecidableEq, Repr

/-- The substitution of R50. -/
def inputsOf (k : ChannelMetrology) (pPoint tPoint : PointState) : Inputs :=
  { p := if pPoint.quality.isBad then k.pFallback else pPoint.value
    t := if tPoint.quality.isBad then k.tFallback else tPoint.value
    flags := ChannelFlag.pHeld.when (pPoint.quality == .held) ||| ChannelFlag.tHeld.when (tPoint.quality == .held) |||
      ChannelFlag.pFixed.when pPoint.quality.isBad ||| ChannelFlag.tFixed.when tPoint.quality.isBad }

/-- The clamp of P (R50). -/
def clampP (v : Int) : Int := clamp 50000 30000000 v

/-- The clamp of T (R50). -/
def clampT (v : Int) : Int := clamp 23315 37315 v

/-- The conversion factor F before its clamp (R51, R52), at a clamped pressure and temperature. -/
def rawFactor (m : MetParams) (p t : Int) : Nat :=
  roundDiv (p.toNat * m.tb * 1000000000000) (m.pb * t.toNat * (interpolate m.z.toList p).toNat)

/-- The clamp of F (R52). -/
def clampF (f : Nat) : Nat := (clamp 100000 400000000 f).toNat

/-- A channel's F, with its substitution and clamp flags (R50 to R52). -/
def factorOf (m : MetParams) (k : ChannelMetrology) (pPoint tPoint : PointState) : Nat × BitVec 11 :=
  let i := inputsOf k pPoint tPoint
  let p := clampP i.p
  let t := clampT i.t
  let f := rawFactor m p t
  (clampF f, i.flags ||| ChannelFlag.clamped.when (decide (p ≠ i.p) || decide (t ≠ i.t) || decide (clampF f ≠ f)))

/-- Stages 4 and 5 for one direction (R53, R54): V, E and the new residues of volume and energy. -/
structure Converted where
  volume : Nat
  energy : Nat
  volRes : Nat
  enRes : Nat
deriving DecidableEq, Repr

/-- Stages 4 and 5 for one direction (R53, R54). -/
def convert (kp cv f n volRes enRes : Nat) : Converted :=
  let v := (n * f + volRes) / kp
  { volume := v, energy := (v * cv + enRes) / 3600, volRes := (n * f + volRes) % kp, enRes := (v * cv + enRes) % 3600 }

/-- Whether a channel is calibrated (R56). -/
def Metrology.isCalibrated (m : Metrology) (i : Fin 8) : Bool := m.valid || m.calibrated.getLsbD i.val

/-- The four counts of the open interval returned to 0 (R41, R63). -/
def PulseChannel.clearCounts (c : PulseChannel) : PulseChannel := { c with fwd := 0, rev := 0, nA := 0, nB := 0 }

/-- What channel `i` enters into a record, and the channel after the close (R44 to R56). -/
def closeChannel (m : Metrology) (cv : Nat) (mode : SiteMode) (points : Vector PointState 48) (i : Fin 8)
    (c : PulseChannel) : ChannelResult × PulseChannel :=
  if m.isCalibrated i then
    let k := m.params.channels[i]
    let taken := c.classify m.params mode i
    let f := factorOf m.params k points[k.pPoint] points[k.tPoint]
    let x := convert k.kp cv f.1 taken.fwd c.volFwd c.enFwd
    let y := convert k.kp cv f.1 taken.rev c.volRev c.enRev
    ({ fwd := taken.fwd, rev := taken.rev, volFwd := x.volume, volRev := y.volume, energy := (x.energy : Int) - y.energy,
       flags := taken.flags ||| (if 0 < taken.fwd ∨ 0 < taken.rev then f.2 else 0) },
     { c.clearCounts with volFwd := x.volRes, enFwd := x.enRes, volRev := y.volRes, enRev := y.enRes })
  else
    ({ fwd := 0, rev := 0, volFwd := 0, volRev := 0, energy := 0, flags := ChannelFlag.notCalibrated.when true },
     c.clearCounts)

/-- The rescale of a channel's volume residues when its K-factor changes (R48). -/
def PulseChannel.rescale (kOld kNew : Nat) (c : PulseChannel) : PulseChannel :=
  { c with volFwd := c.volFwd * kNew / kOld, volRev := c.volRev * kNew / kOld }

/-! ### The interval log (R63 to R66) -/

/-- The sequence number of a log record. -/
def LogRecord.seq : LogRecord → Nat
  | .interval r => r.seq
  | .gap seq _ _ _ => seq

/-- The end time of a log record. -/
def LogRecord.endTime : LogRecord → Nat
  | .interval r => r.endTime
  | .gap _ e _ _ => e

/-- The sequence number the next record takes (R66). -/
def Flow.nextSeq (f : Flow) : Nat := u32 (f.total + 1)

/-- A record entered into the log (R66). -/
def Flow.enter (r : LogRecord) (f : Flow) : Flow :=
  { f with log := lastN Config.logSize (f.log ++ [r]), total := f.nextSeq }

/-- The oldest sequence number available, or none while the log is empty (R66, R197). -/
def Flow.oldest (f : Flow) : Option Nat := f.log.head?.map LogRecord.seq

/-- The sum of a figure over the cavern channels. -/
def cavernSum (results : Vector ChannelResult 8) (g : ChannelResult → Int) : Int :=
  ((List.finRange 6).map fun i => g results[i.castAdd 2]).sum

/-- The interval record of a close (R63). -/
def recordOf (seq : Nat) (kind : RecordKind) (endTime length : Nat) (mode : SiteMode) (lost : Bool)
    (results : Vector ChannelResult 8) : IntervalRecord :=
  { seq := seq, kind := kind, endTime := endTime, length := length, mode := mode, lost := lost, channels := results,
    eNet := cavernSum results (·.energy), eFuel := results[6].energy, eRegen := results[7].energy,
    withdrawal := (cavernSum results fun r => r.volRev).toNat }

/-- Whether a record raises METERING_QUALITY (R64). -/
def IntervalRecord.raisesQuality (r : IntervalRecord) : Bool :=
  (List.finRange 8).any fun c => (r.channels[c].flags &&& qualityFlags) != 0

end Sys2Proof.Machine
end

