-- ==== Sys2Proof/Machine/Ops.lean ====
section
/-! DEFINITION. The operations that blocks share: the output lines, the propagation of a change through caverns,
capacity and demand, the site mode, trips and their clearing, and the protection channels. -/

namespace Sys2Proof.Machine

/-! ### What each block reads of the others -/

/-- What a train reads (R109). -/
def State.trainEnv (s : State) (t : Fin 2) : TrainEnv :=
  { tripped := s.prot.latched .site || s.prot.latched (.train t), withdraw := s.move.mode == .withdraw,
    params := s.params.trains[t], dryer := s.params.dryer }

/-- What the duty controller reads (R94, R98). -/
def State.dutyEnv (s : State) : DutyEnv :=
  { units := s.params.units, duty := s.params.duty, mode := s.move.mode, boost := s.move.boost, net := s.nom.net,
    clock := s.time.clock }

/-- What the nomination controller reads (R149, R151). -/
def State.nomEnv (s : State) : NomEnv :=
  { lost := s.time.lost, hour := s.time.clock / 3600, slots := s.book.slots, inj := s.params.ratchetInj, wdr := s.params.ratchetWdr }

/-- Whether start-up is complete and no reset is in progress (R207). -/
def State.running (s : State) : Bool := s.power.phase == .running

/-! ### Output lines -/

/-- Every output line from the state of its block, its forcing by latched records (R15, R86, R108, R135) and the
attention rule (R192); every one inactive during a reset (R207). -/
def State.outputs (s : State) : Outputs :=
  if s.running then
    { permissive := Vector.ofFn fun i =>
        s.move.caverns[i].state == .flowing && !s.prot.latched .site && !s.prot.latched (.cavern i)
      run := Vector.ofFn fun i =>
        (s.duty.units[i].state == .starting || s.duty.units[i].state == .running) && !s.prot.latched .site &&
          !s.prot.latched (.unit i)
      towerSelect := Vector.ofFn fun i =>
        (s.dryer.trains[i.val / 2].towers[i.val % 2]).state == .adsorbing && !s.prot.latched .site
      heater := Vector.ofFn fun t =>
        (s.dryer.trains[t]).has .heating && !s.prot.latched .site && !s.prot.latched (.train t)
      attnOps := s.ports.ops.attention
      attnCom := s.ports.com.attention
      attnMet := s.ports.met.attention }
  else Outputs.inactive

/-- The output lines driven afresh. -/
def State.driveOutputs (s : State) : State := { s with out := s.outputs }

/-- The end of every command: the output lines follow the state at once. -/
def State.done (s : State) : Host.Outcome State Fault Refusal := .next s.driveOutputs

/-! ### Capacity and confirmation -/

/-- A recomputation of the confirmations of the hours `sel` selects, on the table `n`, with the comparison that raises
CURTAILMENT to COM and OPS (R154, R156). -/
def State.confirm (sel : Nat → Bool) (n : Nominations) (s : State) : State :=
  let after := n.recompute s.nomEnv sel
  let seen := curtailmentSeen s.nom.entries after.entries
  { s with nom := after, ports := (s.ports.raiseCom .curtailment seen).raiseOps .curtailment seen }

/-- The capacity figures re-formed (R141, R142): every hour is recomputed where the site mode changed (`force`) or a
figure changed. -/
def State.capacity (force : Bool) (s : State) : State :=
  let f := s.figures
  if force || decide (f ≠ (s.nom.injPot, s.nom.wdrPot, s.nom.injEff, s.nom.wdrEff)) then
    s.confirm (fun _ => true) { s.nom with injPot := f.1, wdrPot := f.2.1, injEff := f.2.2.1, wdrEff := f.2.2.2 }
  else s

/-- Every start-inhibited flag evaluated (R94). -/
def State.evalInhibit (s : State) : State :=
  { s with duty := s.duty.evalInhibit s.time.clock s.params.duty.startLimit }

/-- The duty controller's reaction (R97 to R100). -/
def State.react (s : State) : State := { s with duty := s.duty.react s.dutyEnv }

/-- A change carried through the blocks that read it: caverns and boost (R12 to R14, R19), start inhibition (R94),
capacity and confirmations (R141, R142, R154), demand and the start slot (R97 to R100). `force`: the site mode
changed. -/
def State.propagate (force : Bool) (s : State) : State := (s.deriveMovement.evalInhibit.capacity force).react

/-! ### Trains -/

/-- One train derived afresh (R109). -/
def State.deriveTrain (t : Fin 2) (s : State) : State :=
  { s with dryer := { s.dryer with trains := s.dryer.trains.set t ((s.dryer.trains[t]).derive (s.trainEnv t)) } }

/-- Both trains derived afresh (R109). -/
def State.deriveTrains (s : State) : State :=
  { s with dryer := { s.dryer with trains := Vector.ofFn fun t => (s.dryer.trains[t]).derive (s.trainEnv t) } }

/-- One train changed by an operation of its own. -/
def State.onTrain (t : Fin 2) (f : TrainEnv → Train → Train) (s : State) : State :=
  { s with dryer := { s.dryer with trains := s.dryer.trains.set t (f (s.trainEnv t) s.dryer.trains[t]) } }

/-! ### The site mode -/

/-- A site mode and changeover set (R5, R11): a change of mode stops every unit where the new mode calls for it (R101),
re-derives the trains (R109) and recomputes every hour (R142). R11 sets no order among the blocks; this one is the model's
choice (notes/assumptions/29.md). -/
def State.setMode (m : SiteMode) (c : Option Changeover) (s : State) : State :=
  let s1 : State := { s with move := { s.move with mode := m, changeover := c } }
  if m = s.move.mode then s1
  else
    let s2 : State := if m.stopsUnits then { s1 with duty := s1.duty.stopAll s1.params.duty.tCool } else s1
    s2.deriveTrains.propagate true

/-- A wanted mode set and applied at once (R5). -/
def State.applyWanted (w : Wanted) (s : State) : State :=
  let x := applyTable s.params.tChange s.move.mode s.move.changeover w
  ({ s with move := { s.move with wanted := w } }).setMode x.1 x.2

/-- The wanted mode an AUTO evaluation gives (R3). -/
def State.autoWanted (s : State) : Wanted :=
  if s.time.lost then .hold
  else if s.hourDirection = 1 then .inject
  else if s.hourDirection = -1 then .withdraw
  else .hold

/-- An AUTO evaluation event (R3); it acts under AUTO alone. -/
def State.autoEvaluate (s : State) : State :=
  if s.params.siteControl = .auto then s.applyWanted s.autoWanted else s

/-! ### Trips -/

/-- What a latch of a record does at the blocks that own its equipment (R136). R136 sets no order among the blocks; units,
site mode, trains is the model's choice (notes/assumptions/29.md). -/
def State.latchEffects (r : RecordId) (s : State) : State :=
  match r with
  | .site => ((({ s with duty := s.duty.tripAll } : State).setMode .shutdown none).deriveTrains).propagate false
  | .unit u => ({ s with duty := s.duty.tripUnit u } : State).propagate false
  | .cavern _ => s.propagate false
  | .train t => (s.deriveTrain t).propagate false

/-- A trip record after a cause has reached it (R130). -/
def TripRecord.reach (c : TripCause) (clock : Nat) (lost : Bool) (r : TripRecord) : TripRecord :=
  if r.latched then { r with causes := r.causes ||| c.mask }
  else { latched := true, firstOut := some { cause := c, clock := clock, lost := lost }, causes := c.mask }

/-- Whether a cause is a member of a record's cause set. -/
def TripRecord.hasCause (c : TripCause) (r : TripRecord) : Bool := (r.causes &&& c.mask) != 0

/-- A cause reaches a record (R130): it latches, is joined, or nothing; a latch acts by R136. -/
def State.reach (r : RecordId) (c : TripCause) (s : State) : State :=
  let old := s.prot.record r
  if old.latched && old.hasCause c then s
  else
    let s1 : State :=
      { s with prot := s.prot.setRecord r (old.reach c s.time.clock s.time.lost), ports := s.ports.raiseOps .trip true }
    if old.latched then s1 else s1.latchEffects r

/-- An internal cause: the unit goes to TRIPPED and the cause reaches its record, in one event (R89 to R91, R134). -/
def State.handCause (u : Fin 4) (c : TripCause) (s : State) : State :=
  ((({ s with duty := s.duty.tripUnit u } : State).reach (.unit u) c)).propagate false

/-- A unit released by the clear of one of its two records, once both are clear (R92). -/
def State.releaseUnit (u : Fin 4) (s : State) : State :=
  if s.prot.latched .site || s.prot.latched (.unit u) then s
  else { s with duty := s.duty.setUnit u (s.duty.units[u]).release }

/-- Every unit whose records are both clear released (R92). -/
def State.releaseUnits (s : State) : State := unitIndices.foldl (fun s u => s.releaseUnit u) s

/-- The site after the clear of its record (R10): HOLD, then by site control. -/
def State.leaveShutdown (s : State) : State :=
  let s1 := s.setMode .hold none
  if s1.params.siteControl = .auto then s1.autoEvaluate
  else { s1 with move := { s1.move with wanted := .hold } }

/-- A record cleared and the clear handed on (R136, R138). R136 sets no order among the blocks; units, trains, site mode is
the model's choice (notes/assumptions/29.md). -/
def State.clearRecord (r : RecordId) (s : State) : State :=
  let s1 : State := { s with prot := s.prot.setRecord r .clear }
  match r with
  | .site => (s1.releaseUnits.deriveTrains.leaveShutdown).propagate false
  | .unit u => (s1.releaseUnit u).propagate false
  | .cavern _ => s1.propagate false
  | .train t => (s1.deriveTrain t).propagate false

/-- The members of a record's cause set that hold it (R137). -/
def State.holders (r : RecordId) (s : State) : BitVec 35 :=
  let live : BitVec 35 :=
    (List.finRange 32).foldl
      (fun acc c => if s.prot.channels[c].live then acc ||| (TripCause.channel c).mask else acc) 0
  let fed : BitVec 35 :=
    match r with
    | .unit u => if s.duty.units[u].feedback then TripCause.runLoss.mask ||| TripCause.stopFail.mask else 0
    | _ => 0
  (s.prot.record r).causes &&& (live ||| fed)

/-! ### Protection channels -/

/-- A channel's source evaluated (R126, R127). -/
def State.sourceOf (s : State) (c : Fin 32) : Bool :=
  let k := s.params.channels[c]
  let pin := s.prot.pins[k.pin] == k.pinHigh
  let line := s.link.lines[k.unit][k.line] == k.lineHigh
  let down := s.link.health[k.unit].health == .down
  match k.form with
  | .pin => pin
  | .line => line
  | .pointHigh => s.survey.points[k.point].alarmHigh
  | .pointLow => s.survey.points[k.point].alarmLow
  | .pinOrLine => down || pin || line
  | .pinAndLine => if down then pin else pin && line

/-- The records a target set names, in the order units, caverns, trains (R131). -/
def targetsOf (set : BitVec 12) : List RecordId :=
  (List.finRange 4).filterMap (fun u => if set.getLsbD u.val then some (RecordId.unit u) else none) ++
  (List.finRange 6).filterMap (fun c => if set.getLsbD (4 + c.val) then some (RecordId.cavern c) else none) ++
  (List.finRange 2).filterMap (fun t => if set.getLsbD (10 + t.val) then some (RecordId.train t) else none)

/-- A matrix with one channel's working state replaced. -/
def Protection.setChannel (p : Protection) (c : Fin 32) (v : ChannelState) : Protection :=
  { p with channels := p.channels.set c v }

/-- A channel's index entered into the advisory set, with TRIP_ADVISORY (R133). -/
def State.enterAdvisory (c : Fin 32) (s : State) : State :=
  { s with
    prot := { s.prot with advisory := s.prot.advisory ||| BitVec.ofNat 32 (2 ^ c.val) }
    ports := s.ports.raiseOps .tripAdvisory true }

/-- A channel becoming active: its live condition ACTIVE, and its class acts (R128, R131 to R133). -/
def State.becomeActive (c : Fin 32) (s : State) : State :=
  let s1 : State := { s with prot := s.prot.setChannel c { source := true, timer := none, live := true } }
  match s1.params.channels[c].cls with
  | .site => s1.reach .site (.channel c)
  | .equipment => (targetsOf s1.params.channels[c].targets).foldl (fun s r => s.reach r (.channel c)) s1
  | .advisory => s1.enterAdvisory c

/-- A channel's source becoming ACTIVE (R128). -/
def State.sourceRises (c : Fin 32) (s : State) : State :=
  let k := s.params.channels[c]
  if k.debounce = 0 then s.becomeActive c
  else { s with prot := s.prot.setChannel c { source := true, timer := some k.debounce, live := false } }

/-- An ENABLED channel evaluates its source afresh (R126, R128). -/
def State.evalChannel (c : Fin 32) (s : State) : State :=
  if s.params.channels[c].enabled then
    let v := s.sourceOf c
    if v = s.prot.channels[c].source then s
    else if v then s.sourceRises c
    else { s with prot := s.prot.setChannel c .atReset }
  else s

/-- The channels that `reads` selects evaluate their sources, in index order. -/
def State.evalChannels (reads : ChannelConfig → Bool) (s : State) : State :=
  (List.finRange 32).foldl (fun s c => if reads s.params.channels[c] then s.evalChannel c else s) s

/-- Whether a channel reads a protection pin (Table 7-1). -/
def ChannelConfig.readsPin (p : Fin 16) (k : ChannelConfig) : Bool :=
  k.pin == p && (k.form == .pin || k.form == .pinOrLine || k.form == .pinAndLine)

/-- Whether a channel reads a mirrored line of a wellhead unit (Table 7-1). -/
def ChannelConfig.readsUnit (u : Fin 6) (k : ChannelConfig) : Bool :=
  k.unit == u && (k.form == .line || k.form == .pinOrLine || k.form == .pinAndLine)

/-- Whether a channel reads an alarm flag of a survey point (Table 7-1). -/
def ChannelConfig.readsPoint (p : Fin 48) (k : ChannelConfig) : Bool :=
  k.point == p && (k.form == .pointHigh || k.form == .pointLow)

/-! ### Parameter writes -/

/-- New operating parameters put in force and stored in the operating image, which becomes VALID (R201, R202). -/
def State.storeOp (p : OpParams) (s : State) : State :=
  { s with params := p, store := { s.store with opImage := some (opImage p), opValid := true } }

end Sys2Proof.Machine
end

