-- ==== Sys2Proof/Machine/PortOps.lean ====
section
/-! DEFINITION. The shared operations of the port controllers (chapter 10): answers and their frames, the receive
states, and the taking of a request. -/

namespace Sys2Proof.Machine

/-! ### Answers (R187) -/

/-- The value of an answer code (Table 10-2). -/
def AnswerCode.code : AnswerCode → Nat
  | .ok => 0x00
  | .okClamped => 0x01
  | .accepted => 0x02
  | .refusedAccess => 0x10
  | .refusedRange => 0x11
  | .refusedState => 0x12
  | .refusedBusy => 0x13
  | .late => 0x14
  | .sealed => 0x15
  | .listFull => 0x16
  | .linkFailed => 0x17

/-- Content bytes of a segment (R187). -/
def segmentSize : Nat := 238

/-- The content split into segments of 238 bytes, the last one shorter; an empty content is one segment. `n` bounds the
number of segments. -/
def segments : Nat → List Byte → List (List Byte)
  | 0, bs => [bs]
  | n + 1, bs => if bs.length ≤ segmentSize then [bs] else bs.take segmentSize :: segments n (bs.drop segmentSize)

/-- A frame (Table 10-1): start, length, tag, kind, payload and CRC-16. -/
def frameOf (tag kind : Byte) (payload : List Byte) : List Byte :=
  let body := be 1 (payload.length + 2) ++ [tag, kind] ++ payload
  [0xC5#8] ++ body ++ be 2 (crc16 body).toNat

/-- The segment byte: the index, with bit 7 where another segment follows (R187). -/
def segmentByte (i n : Nat) : Nat := i + if i + 1 < n then 128 else 0

/-- The frames of an answer, in the order sent (R187). -/
def Answer.frames (a : Answer) : List (List Byte) :=
  let parts := segments 127 a.content
  (parts.zip (List.range parts.length)).map fun p =>
    frameOf a.tag (BitVec.ofNat 8 a.code.code) (a.kind :: be 1 (segmentByte p.2 parts.length) ++ p.1)

/-! ### Receive states (R185, R188, R191) -/

/-- A port entering WAITING takes up its stored line rate (R191). -/
def PortState.enterWaiting (rate : Nat) (p : PortState) : PortState :=
  { p with rx := .waiting, frame := none, sending := none, rate := rate }

/-- A port beginning to send an answer (R185). -/
def PortState.send (a : Answer) (p : PortState) : PortState :=
  { p with rx := .sending, frame := none, sending := some a }

/-- A port withholding an answer (R81, R188). -/
def PortState.withhold (w : Withheld) (p : PortState) : PortState :=
  { p with rx := .held, frame := none, held := some w }

/-- A frame completed or abandoned at a port in HELD: the frame is gone, and a ready answer is sent (R188). -/
def PortState.heldFrameEnds (p : PortState) : PortState :=
  match p.held with
  | some { ready := some a, .. } => { (p.send a) with held := none }
  | _ => { p with frame := none }

/-- The held answer becoming ready at a port (R188): sent at once, or after the frame being collected. -/
def PortState.deliver (code : AnswerCode) (content : List Byte) (p : PortState) : PortState :=
  match p.rx, p.held with
  | .held, some w =>
    let a : Answer := { tag := w.tag, kind := w.kind, code := code, content := content }
    if p.frame.isNone then { (p.send a) with held := none } else { p with held := some { w with ready := some a } }
  | _, _ => p

/-- A port's controller changed by an operation of its own. -/
def State.onPort (p : Port) (f : PortState → PortState) (s : State) : State :=
  { s with ports := s.ports.set (f (s.ports.get p)) p }

/-- A frame abandoned or dropped at a port (R185, R188): COLLECTING returns to WAITING, HELD loses the frame. -/
def State.dropFrame (p : Port) (s : State) : State :=
  match (s.ports.get p).rx with
  | .collecting => s.onPort p (·.enterWaiting (s.params.rate p))
  | .held => s.onPort p (·.heldFrameEnds)
  | .waiting | .sending => s

/-! ### Taking a request (R186) -/

/-- What the owning block makes of a request: the state as its event leaves it, and the answer's code and content, or
none where the answer is withheld (R81). -/
abbrev Act := List Int → State → State × Option (AnswerCode × List Byte)

/-- A request answered without effect. -/
def refuse (c : AnswerCode) (s : State) : State × Option (AnswerCode × List Byte) := (s, some (c, []))

/-- A request taken with an effect and answered OK, with content formed on the state the event leaves (R186). -/
def accept (s : State) (content : State → List Byte := fun _ => []) : State × Option (AnswerCode × List Byte) :=
  (s, some (.ok, content s))

/-- The outcome of a request at its port: the answer begins, or the port is HELD (R185, R188). -/
def finishRequest (r : Request) (kind : Byte) (x : State × Option (AnswerCode × List Byte)) : State :=
  match x.2 with
  | some (code, content) => x.1.onPort r.port (·.send { tag := r.tag, kind := kind, code := code, content := content })
  | none => x.1.onPort r.port (·.withhold { tag := r.tag, kind := kind, ready := none })

/-- The kind byte of a request. -/
def kindByte (k : ReqKind) : Byte := BitVec.ofNat 8 (kindCode k)

/-- The checks of R186 and, past them, the owning block's decision. -/
def checked (k : ReqKind) (r : Request) (act : Act) (s : State) : State × Option (AnswerCode × List Byte) :=
  if mayIssue r.port k then
    match arguments k r.payload with
    | some args => act args s
    | none => refuse .refusedRange s
  else refuse .refusedAccess s

/-- A frame with a right CRC arriving at a port (R185, R186, R188): taken in WAITING or COLLECTING, discarded while the
port sends, and discarded in HELD. `take` is the request's event. No request is taken during a reset (R207). -/
def State.atPort (r : Request) (kind : Byte) (take : State → State × Option (AnswerCode × List Byte)) (s : State) : State :=
  if s.running then
    match (s.ports.get r.port).rx with
    | .waiting | .collecting => finishRequest r kind (take s)
    | .sending => s
    | .held => s.onPort r.port (·.heldFrameEnds)
  else s

/-- A request of kind `k` (R186). -/
def request (k : ReqKind) (r : Request) (act : Act) (s : State) : Host.Outcome State Fault Refusal :=
  (s.atPort r (kindByte k) (checked k r act)).done

end Sys2Proof.Machine
end

