-- ==== Sys2Proof/Decode.lean ====
section
/-! DEFINITION. Words and frames to commands. The opcode table gives no row any bits, so no table word spells a command.
A request reaches a port as a frame of R183: `encodeFrame` writes the frame of a request, and `decodeFrame` reads the
bytes of one frame as the command it is. -/

namespace Sys2Proof

/-- The command a table word spells: none, since no row of spec/opcode_table.json gives any bits. -/
def decodeTableWord (_nbits _w : Nat) : Option Instr := none

namespace Machine

/-- The command that a request of a kind is. A RESET_TRIP whose one payload byte is 13 names ADVISORY (R139, R184);
`taking` is the operand of SET_CLOCK. -/
def ofRequest (k : ReqKind) (taking : Taking) (r : Request) : Instr :=
  match k with
  | .readStatus => .readStatus r
  | .readPoints => .readPoints r
  | .readIntervals => .readIntervals r
  | .readAccounts => .readAccounts r
  | .readDayRecords => .readDayRecords r
  | .readNominations => .readNominations r
  | .readParameters => .readParameters r
  | .ackCauses => .ackCauses r
  | .setMask => .setMask r
  | .remoteRead => .remoteRead r
  | .remoteWrite => .remoteWrite r
  | .writeStaging => .writeStaging r
  | .readStaging => .readStaging r
  | .setAnswerMode => .setAnswerMode r
  | .fetchRemote => .fetchRemote r
  | .setSiteControl => .setSiteControl r
  | .setSiteMode => .setSiteMode r
  | .setChangeoverTime => .setChangeoverTime r
  | .setCavern => .setCavern r
  | .setPipeline => .setPipeline r
  | .setCavernInventory => .setCavernInventory r
  | .setPoint => .setPoint r
  | .setSurveyPeriod => .setSurveyPeriod r
  | .setLink => .setLink r
  | .startUnit => .startUnit r
  | .stopUnit => .stopUnit r
  | .setUnit => .setUnit r
  | .setDuty => .setDuty r
  | .setRunSeconds => .setRunSeconds r
  | .setTower => .setTower r
  | .setTrain => .setTrain r
  | .setDryer => .setDryer r
  | .setChannel => .setChannel r
  | .resetTrip => if r.payload = [13#8] then .resetTripAdvisory r.port r.tag else .resetTrip r
  | .setCv => .setCv r
  | .setClock => .setClock r taking
  | .setLineRate => .setLineRate r
  | .restart => .restart r
  | .stageOpening => .stageOpening r
  | .openBook => .openBook r
  | .setShipper => .setShipper r
  | .transfer => .transfer r
  | .nominate => .nominate r
  | .setRatchet => .setRatchet r
  | .setLeadTime => .setLeadTime r
  | .resetEntryCounter => .resetEntryCounter r
  | .setMetrology => .setMetrology r
  | .readMetrologyList => .readMetrologyList r
  | .clearMetrologyList => .clearMetrologyList r

/-- The request a command is, with its kind byte; none for an event. -/
def requestOf : Instr → Option (Byte × Request)
  | .readStatus r => some (kindByte .readStatus, r)
  | .readPoints r => some (kindByte .readPoints, r)
  | .readIntervals r => some (kindByte .readIntervals, r)
  | .readAccounts r => some (kindByte .readAccounts, r)
  | .readDayRecords r => some (kindByte .readDayRecords, r)
  | .readNominations r => some (kindByte .readNominations, r)
  | .readParameters r => some (kindByte .readParameters, r)
  | .ackCauses r => some (kindByte .ackCauses, r)
  | .setMask r => some (kindByte .setMask, r)
  | .remoteRead r => some (kindByte .remoteRead, r)
  | .remoteWrite r => some (kindByte .remoteWrite, r)
  | .writeStaging r => some (kindByte .writeStaging, r)
  | .readStaging r => some (kindByte .readStaging, r)
  | .setAnswerMode r => some (kindByte .setAnswerMode, r)
  | .fetchRemote r => some (kindByte .fetchRemote, r)
  | .setSiteControl r => some (kindByte .setSiteControl, r)
  | .setSiteMode r => some (kindByte .setSiteMode, r)
  | .setChangeoverTime r => some (kindByte .setChangeoverTime, r)
  | .setCavern r => some (kindByte .setCavern, r)
  | .setPipeline r => some (kindByte .setPipeline, r)
  | .setCavernInventory r => some (kindByte .setCavernInventory, r)
  | .setPoint r => some (kindByte .setPoint, r)
  | .setSurveyPeriod r => some (kindByte .setSurveyPeriod, r)
  | .setLink r => some (kindByte .setLink, r)
  | .startUnit r => some (kindByte .startUnit, r)
  | .stopUnit r => some (kindByte .stopUnit, r)
  | .setUnit r => some (kindByte .setUnit, r)
  | .setDuty r => some (kindByte .setDuty, r)
  | .setRunSeconds r => some (kindByte .setRunSeconds, r)
  | .setTower r => some (kindByte .setTower, r)
  | .setTrain r => some (kindByte .setTrain, r)
  | .setDryer r => some (kindByte .setDryer, r)
  | .setChannel r => some (kindByte .setChannel, r)
  | .resetTrip r => some (kindByte .resetTrip, r)
  | .resetTripAdvisory port tag => some (kindByte .resetTrip, { port := port, tag := tag, payload := [13#8] })
  | .setCv r => some (kindByte .setCv, r)
  | .setClock r _ => some (kindByte .setClock, r)
  | .setLineRate r => some (kindByte .setLineRate, r)
  | .restart r => some (kindByte .restart, r)
  | .stageOpening r => some (kindByte .stageOpening, r)
  | .openBook r => some (kindByte .openBook, r)
  | .setShipper r => some (kindByte .setShipper, r)
  | .transfer r => some (kindByte .transfer, r)
  | .nominate r => some (kindByte .nominate, r)
  | .setRatchet r => some (kindByte .setRatchet, r)
  | .setLeadTime r => some (kindByte .setLeadTime, r)
  | .resetEntryCounter r => some (kindByte .resetEntryCounter, r)
  | .setMetrology r => some (kindByte .setMetrology, r)
  | .readMetrologyList r => some (kindByte .readMetrologyList, r)
  | .clearMetrologyList r => some (kindByte .clearMetrologyList, r)
  | .undefinedRequestKind r kind => some (kind, r)
  | .frameCrcError _ | .frameLengthInvalid _ _ | .framePauseTimeout _ | .heldFrameDiscard _ | .answerSent _
  | .restartReset | .powerFail | .powerOn _ | .resetInputAssert | .resetInputRelease | .startUpComplete _ | .clockTick
  | .intervalClose _ | .hourEvent _ | .changeoverExpiry | .passDue _ | .pulseInputChange _ _ _ | .pinLevelChange _ _
  | .feedbackChange _ _ | .sealInputChange _ | .linkFrameReceived _ | .attemptTransmitted | .attemptTimeout
  | .settleWaitExpiry | .startTimeExpiry _ | .cooldownExpiry _ | .stopDelayExpiry | .heatingExpiry _
  | .coolingExpiry _ | .debounceExpiry _ | .frameStart _ => none

/-- The frame of a request (R183). -/
def encodeFrame (i : Instr) : Option (List Byte) := (requestOf i).map fun x => frameOf x.2.tag x.1 x.2.payload

/-- The command that the tag, kind and payload bytes of a frame with a right CRC-16 are at a port (R185, R189). -/
def decodeBody (p : Port) (taking : Taking) : List Byte → Option Instr
  | tag :: kind :: payload =>
    let r : Request := { port := p, tag := tag, payload := payload }
    match kindOfCode kind.toNat with
    | some k => some (ofRequest k taking r)
    | none => some (.undefinedRequestKind r kind)
  | _ => none

/-- The command that the bytes of one frame are at a port (R183, R185): none where they are not one frame. -/
def decodeFrame (p : Port) (taking : Taking) : List Byte → Option Instr
  | start :: length :: rest =>
    if start ≠ 0xC5#8 then none
    else if length.toNat < 2 ∨ 242 < length.toNat then some (.frameLengthInvalid p length)
    else if rest.length ≠ length.toNat + 2 then none
    else
      let body := rest.take length.toNat
      if be 2 (crc16 (length :: body)).toNat = rest.drop length.toNat then decodeBody p taking body
      else some (.frameCrcError p)
  | _ => none

end Machine

end Sys2Proof
end

