-- ==== Sys2Proof/Machine/Points.lean ====
section
/-! DEFINITION. The shared operations on survey points (chapter 2): scaling, rounds, publication, quality by age, alarm
flags, the effects of SET_POINT, and pass completion. -/

namespace Sys2Proof.Machine

/-- The engineering value of a raw sample (R24). -/
def scale (low high : Int) (r : Nat) : Int := low + floorDiv ((r : Int) * (high - low)) 65535

/-- The round state emptied (R34, R35). -/
def PointState.emptyRound (p : PointState) : PointState := { p with pos := 0, okCount := 0, acc := 0 }

/-- The alarm flags evaluated (R37). -/
def PointState.evalAlarms (c : PointConfig) (p : PointState) : PointState :=
  match p.quality with
  | .good | .held =>
    { p with
      alarmHigh := if c.alarmHigh < p.value then true
        else if p.value ≤ c.alarmHigh - c.hysteresis then false else p.alarmHigh
      alarmLow := if p.value < c.alarmLow then true
        else if c.alarmLow + c.hysteresis ≤ p.value then false else p.alarmLow }
  | .failed => p
  | .unknown => { p with alarmHigh := false, alarmLow := false }

/-- The quality of a published point by its age (R36). -/
def qualityOf (c : PointConfig) (age : Nat) : Quality :=
  if age ≤ c.heldLimit then .good else if age ≤ c.failedLimit then .held else .failed

/-- The quality re-derived from the present age; a change of it evaluates the alarm flags (R36, R37). -/
def PointState.requalify (c : PointConfig) (p : PointState) : PointState :=
  if p.quality = .unknown then p
  else
    let q := qualityOf c p.age
    if q = p.quality then p else ({ p with quality := q }).evalAlarms c

/-- One second of age at a point that has published (R36). -/
def PointState.second (c : PointConfig) (p : PointState) : PointState :=
  if p.quality = .unknown then p else ({ p with age := saturate Config.count16Max (p.age + 1) }).requalify c

/-- The running result after a successful sample (R33). -/
def reduceSample (m : Reduction) (ok : Nat) (acc v : Int) : Int :=
  if ok = 0 then v
  else match m with
    | .first => acc
    | .min => min acc v
    | .max => max acc v
    | .mean => acc + v

/-- The value a round publishes (R33). -/
def reducedValue (m : Reduction) (ok : Nat) (acc : Int) : Int :=
  match m with
  | .mean => floorDiv acc ok
  | .first | .min | .max => acc

/-- A publication at a point (R34). -/
def PointState.publish (c : PointConfig) (v : Int) (p : PointState) : PointState :=
  (({ p with value := v, quality := .good, age := 0, skip := c.skips * c.avg }).evalAlarms c).emptyRound

/-- A point after a sample has been entered, and whether that published (R33 to R35). `v` is none for a failed sample. -/
def PointState.sample (c : PointConfig) (v : Option Int) (p : PointState) : PointState × Bool :=
  let p1 : PointState :=
    match v with
    | some x => { p with pos := p.pos + 1, okCount := p.okCount + 1, acc := reduceSample c.reduction p.okCount p.acc x }
    | none => { p with pos := p.pos + 1 }
  if p1.pos < c.avg then (p1, false)
  else if p1.okCount = 0 then ({ p1.emptyRound with skip := 0 }, false)
  else (p1.publish c (reducedValue c.reduction p1.okCount p1.acc), true)

/-- The action of R112 at every train whose dew point point is `p`. -/
def State.dewActions (p : Fin 48) (s : State) : State :=
  { s with dryer := { s.dryer with trains := Vector.ofFn fun t =>
      if s.params.trains[t].dewPoint = p then
        (s.dryer.trains[t]).dewAction (s.trainEnv t) s.survey.points[p].quality s.survey.points[p].value
      else s.dryer.trains[t] } }

/-- A point record replaced, without what its neighbours do. -/
def State.setPoint (p : Fin 48) (v : PointState) (s : State) : State :=
  { s with survey := { s.survey with points := s.survey.points.set p v } }

/-- A point's new state seen by its readers (R38, R39): POINT_ALARM for a flag change, the dryer's action on a
publication or a change of quality (R112), the caverns on a change, and the channels that read a changed flag. R39 sets no
order among the readers; this one is the model's choice (notes/assumptions/29.md). -/
def State.updatePoint (p : Fin 48) (new : PointState) (published : Bool) (s : State) : State :=
  let old := s.survey.points[p]
  let flagged := new.alarmHigh != old.alarmHigh || new.alarmLow != old.alarmLow
  let s1 := s.setPoint p new
  let s2 : State := { s1 with ports := s1.ports.raiseOps .pointAlarm flagged }
  let s3 := if published || new.quality != old.quality then s2.dewActions p else s2
  let s4 := if published || new.quality != old.quality || new.value != old.value then s3.propagate false else s3
  if flagged then s4.evalChannels (·.readsPoint p) else s4

/-- A sample entered into a point's round, with what its publication brings about (R33 to R35, R39). -/
def State.enterSample (p : Fin 48) (v : Option Int) (s : State) : State :=
  let x := (s.survey.points[p]).sample s.params.points[p] v
  s.updatePoint p x.1 x.2

/-- A raw sample scaled by the point's configuration (R24). -/
def State.scaled (s : State) (p : Fin 48) (r : Reg16) : Int :=
  scale s.params.points[p].low s.params.points[p].high r.toNat

/-- One second of age at every point (R36). R36 sets no order among points that change quality at the same whole second;
ascending index, each seen by its readers before the next, is the model's choice (notes/assumptions/29.md). -/
def State.agePoints (s : State) : State :=
  (List.finRange 48).foldl
    (fun s p =>
      if s.survey.points[p].quality = .unknown then s
      else s.updatePoint p ((s.survey.points[p]).second s.params.points[p]) false) s

/-- The working state cleared by the first line of Table 2-2. -/
def PointState.cleared (p : PointState) : PointState :=
  { p with value := 0, quality := .unknown, age := 0, alarmHigh := false, alarmLow := false, pos := 0, okCount := 0,
           acc := 0, skip := 0, tag := p.tag + 1 }

/-- The round emptied by Table 2-2. -/
def PointState.restart (p : PointState) : PointState := { p.emptyRound with skip := 0, tag := p.tag + 1 }

/-- The effect of an accepted SET_POINT on the working state, line by line (Table 2-2). -/
def PointState.reconfigure (old new : PointConfig) (p : PointState) : PointState :=
  let p1 := if old.enabled && !new.enabled then p.cleared else p
  let p2 := if old.source ≠ new.source ∨ old.low ≠ new.low ∨ old.high ≠ new.high then p1.cleared else p1
  let p3 := if !old.enabled && new.enabled then p2.restart else p2
  let p4 := if old.reduction ≠ new.reduction ∨ old.avg ≠ new.avg ∨ old.skips ≠ new.skips then p3.restart else p3
  let p5 :=
    if old.alarmHigh ≠ new.alarmHigh ∨ old.alarmLow ≠ new.alarmLow ∨ old.hysteresis ≠ new.hysteresis then
      p4.evalAlarms new
    else p4
  if old.heldLimit ≠ new.heldLimit ∨ old.failedLimit ≠ new.failedLimit then p5.requalify new else p5

/-! ### Passes (R30, R31) -/

/-- A pass completed where none of its transactions is outstanding (R30). -/
def Survey.checkPass (v : Survey) : Survey :=
  if v.inPass && v.outstanding == 0 then
    { v with inPass := false, consecutive := 0, completed := saturate Config.count16Max (v.completed + 1) }
  else v

/-- A transaction of the pass reported (R30). -/
def Survey.report (v : Survey) : Survey := ({ v with outstanding := v.outstanding - 1 }).checkPass

/-- A due pass dropped (R31). -/
def Survey.drop (v : Survey) : Survey :=
  { v with overrun := saturate Config.count16Max (v.overrun + 1)
           consecutive := saturate Config.count16Max (v.consecutive + 1) }

end Sys2Proof.Machine
end

