-- ==== Sys2Proof/Machine/LinkOps.lean ====
section
/-! DEFINITION. The shared operations of the wellhead link controller (chapter 4): offers, starts, health and mirrored
lines, the end of a transaction and its report, and the start of a survey pass. -/

namespace Sys2Proof.Machine

/-! ### The queue (R70, R71) -/

/-- The head of the queue started where no transaction is in flight and no settle wait runs (R71). The link tag is the
count of transactions started, this one with them, modulo 256 (notes/assumptions/9.md). -/
def Link.startNext (timeout : Nat) (l : Link) : Link :=
  match l.flight, l.settle, l.queue with
  | none, none, e :: rest =>
    { l with queue := rest, started := l.started + 1,
             flight := some { entry := e, tag := BitVec.ofNat 8 (l.started + 1), retry := false, timeout := timeout,
                              timer := none } }
  | _, _, _ => l

/-- An offer (R70): accepted at the tail, or refused with eight entries waiting. -/
def Link.offer (timeout : Nat) (e : Entry) (l : Link) : Option Link :=
  if l.queue.length < Config.queueSize then some (({ l with queue := l.queue ++ [e] }).startNext timeout) else none

/-- An offer to the link controller; none where it is refused (R70). -/
def State.offer (e : Entry) (s : State) : Option State :=
  (s.link.offer s.params.link.timeout e).map fun l => { s with link := l }

/-! ### Health and lines (R74, R75) -/

/-- The health record after a success (R74). -/
def UnitHealth.success (_ : UnitHealth) : UnitHealth := { health := .up, failures := 0 }

/-- The health record after a failure (R74). -/
def UnitHealth.failure (h : UnitHealth) : UnitHealth :=
  match h.health with
  | .up => { health := .degraded, failures := 1 }
  | .degraded => if h.failures < 2 then { health := .degraded, failures := 2 } else { health := .down, failures := 3 }
  | .down => { health := .down, failures := 3 }

/-- A unit's health record and lines set in one event, and seen by their readers (R74, R75): LINK_STATE on a change of
health state, the caverns, and the channels that read the unit. R126 and R127 set no order between the caverns, with the
capacity and demand that follow them, and the channels; the caverns first is the model's choice
(notes/assumptions/29.md). -/
def State.setUnitLink (u : Fin 6) (h : UnitHealth) (lines : Vector Bool 4) (s : State) : State :=
  let moved := h.health != s.link.health[u].health
  let s1 : State :=
    { s with link := { s.link with health := s.link.health.set u h, lines := s.link.lines.set u lines }
             ports := s.ports.raiseOps .linkState moved }
  (s1.propagate false).evalChannels (·.readsUnit u)

/-- A valid reply from an enabled unit (R73, R75). -/
def State.unitSuccess (u : Fin 6) (lines : Vector Bool 4) (s : State) : State :=
  s.setUnitLink u (s.link.health[u]).success lines

/-- A failed transaction of an enabled unit (R73, R75): the lines take their fail values when the unit becomes DOWN. -/
def State.unitFailure (u : Fin 6) (s : State) : State :=
  let h := (s.link.health[u]).failure
  s.setUnitLink u h
    (if h.health = .down ∧ s.link.health[u].health ≠ .down then s.params.link.failValues[u] else s.link.lines[u])

/-! ### Reports (R73) -/

/-- The reason of a LINK_FAILED answer (R81, Table 10-10). -/
def FailCause.code : FailCause → Nat
  | .timedOut => 1
  | .badReply => 2
  | .cancelled => 3

/-- The held answer of an outcome (R81). -/
def heldAnswer : LinkOutcome → AnswerCode × List Byte
  | .completed regs => (.ok, (regs.map fun r => be 2 r.toNat).flatten)
  | .rejected => (.linkFailed, be 1 0)
  | .failed c => (.linkFailed, be 1 c.code)

/-- The outcome as a port's result keeps it: the registers are a completed READ's alone (R82). -/
def outcomeFor (k : LinkKind) : LinkOutcome → LinkOutcome
  | .completed regs => .completed (if k = .read then regs else [])
  | o => o

/-- The survey scheduler told that a transaction of its pass has ended (R30). -/
def State.reportPass (s : State) : State := { s with survey := s.survey.report }

/-- An outcome reported to its originator (R32, R73, R81, R82). -/
def State.report (e : Entry) (o : LinkOutcome) (s : State) : State :=
  match e.origin with
  | .surveyRead p tag =>
    let s1 :=
      if s.survey.points[p].tag = tag then
        match o with
        | .completed (r :: _) => s.enterSample p (some (s.scaled p r))
        | _ => s.enterSample p none
      else s
    s1.reportPass
  | .surveyPoll => s.reportPass
  | .port rp .hold => s.onPort rp.port (·.deliver (heldAnswer (outcomeFor e.kind o)).1 (heldAnswer (outcomeFor e.kind o)).2)
  | .port rp .early =>
    let result : RemoteResult :=
      { isWrite := e.kind == .write, unit := e.unit, device := e.device, first := e.first, count := e.count,
        outcome := outcomeFor e.kind o }
    (({ s with ports := s.ports.setRemote { s.ports.remote rp with slot := .ready result } rp } : State)).onPort rp.port
      (·.raise .remoteDone)

/-- The end of the transaction in flight (R71, R73): the unit's health and lines, the report, and the next start, after
a settle wait where the retry was sent. `lines` are those of a valid reply. That the readers of health and lines act before
the report and the next start is the model's choice (notes/assumptions/29.md). -/
def State.endTransaction (f : Flight) (o : LinkOutcome) (lines : Option (Vector Bool 4)) (s : State) : State :=
  let t := s.params.link.timeout
  let s1 : State := { s with link := { s.link with flight := none, settle := if f.retry then some t else none } }
  let s2 :=
    if s.params.link.enabled[f.entry.unit] then
      match lines with
      | some ls => s1.unitSuccess f.entry.unit ls
      | none => s1.unitFailure f.entry.unit
    else s1
  let s3 := s2.report f.entry o
  { s3 with link := s3.link.startNext t }

/-- Whether a frame with a right CRC and the in-flight tag has the addressing of the transaction, and a reply of a form
its kind allows (R68, R69). -/
def frameAnswers (e : Entry) (r : LinkFrame) : Bool :=
  let registers := r.device == e.device.val && r.first == e.first.val && r.count == e.count
  r.unit == e.unit.val + 1 && r.kind == e.kind &&
    (match e.kind, r.reply with
     | .read, .data regs => registers && regs.length == e.count
     | .read, .rejected => registers
     | .write, .done => registers
     | .write, .rejected => registers
     | .status, .status => true
     | _, _ => false)

/-- The outcome of a valid reply (R72). -/
def frameOutcome (r : LinkFrame) : LinkOutcome :=
  match r.reply with
  | .data regs => .completed regs
  | .done | .status => .completed []
  | .rejected => .rejected

/-! ### Cancellation (R76) -/

/-- The waiting entries of a unit removed from the queue and reported FAILED, cause CANCELLED (R76). R76 sets no order among
the reports; that of the queue, its head first, is the model's choice (notes/assumptions/29.md). -/
def State.cancelUnit (u : Fin 6) (s : State) : State :=
  let gone := s.link.queue.filter fun e => e.unit == u
  let s1 : State := { s with link := { s.link with queue := s.link.queue.filter fun e => e.unit != u } }
  gone.foldl (fun s e => s.report e (.failed .cancelled)) s1

/-- What a change of the link parameters does to one unit (R75 to R77). -/
def State.relinkUnit (old new : LinkParams) (u : Fin 6) (s : State) : State :=
  if old.enabled[u] && !new.enabled[u] then
    (s.setUnitLink u { health := .down, failures := 3 } new.failValues[u]).cancelUnit u
  else if s.link.health[u].health = .down ∧ old.failValues[u] ≠ new.failValues[u] then
    s.setUnitLink u s.link.health[u]
      (Vector.ofFn fun l => if old.failValues[u][l] = new.failValues[u][l] then s.link.lines[u][l] else new.failValues[u][l])
  else s

/-! ### The start of a pass (R28, R29) -/

/-- A pass under way: the state, and the units for which it has had a READ accepted. -/
structure Visit where
  state : State
  read : Vector Bool 6
deriving DecidableEq, Repr

/-- One more outstanding transaction of the pass. -/
def State.addOutstanding (s : State) : State :=
  { s with survey := { s.survey with outstanding := s.survey.outstanding + 1 } }

/-- The visit of one point (R28). -/
def Visit.point (samples : Vector Reg16 16) (v : Visit) (p : Fin 48) : Visit :=
  let s := v.state
  let st := s.survey.points[p]
  if s.params.points[p].enabled then
    if 0 < st.skip then { v with state := s.setPoint p { st with skip := st.skip - 1 } }
    else
      match s.params.points[p].source with
      | .local input => { v with state := s.enterSample p (some (s.scaled p samples[input])) }
      | .remote u d r =>
        if s.params.link.enabled[u] then
          match s.offer { kind := .read, unit := u, device := d, first := r, count := 1, values := [],
                          origin := .surveyRead p st.tag } with
          | some s1 => { state := s1.addOutstanding, read := v.read.set u true }
          | none => { v with state := s.enterSample p none }
        else { v with state := s.enterSample p none }
  else v

/-- The poll offered to one unit (R29). -/
def Visit.poll (v : Visit) (u : Fin 6) : Visit :=
  if v.state.params.link.enabled[u] && !v.read[u] then
    match v.state.offer { kind := .status, unit := u, device := 0, first := 0, count := 0, values := [],
                          origin := .surveyPoll } with
    | some s1 => { v with state := s1.addOutstanding }
    | none => v
  else v

/-- A new pass: the point visit, the polls, and its completion where nothing is outstanding (R28 to R30). -/
def State.startPass (samples : Vector Reg16 16) (s : State) : State :=
  let s1 : State := { s with survey := { s.survey with inPass := true, outstanding := 0 } }
  let v := (List.finRange 48).foldl (Visit.point samples) { state := s1, read := Vector.replicate 6 false }
  let w := (List.finRange 6).foldl Visit.poll v
  { w.state with survey := w.state.survey.checkPass }

end Sys2Proof.Machine
end

