-- ==== Sys2Proof/Machine/Records.lean ====
section
/-! DEFINITION. The shared operations of the time base and of a completed interval record (chapters 3, 6, 9): the
close, what the three blocks do on it, the GAP record, the second of elapsed time, and the loss of the clock. -/

namespace Sys2Proof.Machine

/-! ### What the blocks do on a completed record (R64) -/

/-- One cavern takes a completed record as its own event (R16): its ring and inventory (R16 to R18), seen at once by its
readers (R14). -/
def State.cavernTakes (r : IntervalRecord) (s : State) (i : Fin 6) : State :=
  let c := (s.move.caverns[i]).onRecord s.params.caverns[i].maxRate (s.cavernPoint i).quality (s.cavernPoint i).value
    r.channels[i.castAdd 2].energy
  ({ s with move := { s.move with caverns := s.move.caverns.set i c } } : State).propagate false

/-- The movement controller's part: the six caverns take the record one after the other (R16). R16 sets no order among
them; ascending index is the model's choice (notes/assumptions/29.md). -/
def State.cavernsTake (r : IntervalRecord) (s : State) : State := (List.finRange 6).foldl (·.cavernTakes r ·) s

/-- Water loading of one train (R113). -/
def State.loadTrain (t : Fin 2) (share : Nat) (s : State) : State :=
  let p := s.params.trains[t]
  let inlet := s.survey.points[p.inlet]
  s.onTrain t fun e x => x.load e share (waterContent p inlet.quality inlet.value)

/-- The dryer controller's part (R113). -/
def State.dryerTakes (r : IntervalRecord) (s : State) : State :=
  if r.mode = .withdraw then
    let l := r.withdrawal
    match s.dryer.trains[0].state.isDrying, s.dryer.trains[1].state.isDrying with
    | true, true => (s.loadTrain 0 (l / 2 + l % 2)).loadTrain 1 (l / 2)
    | true, false => s.loadTrain 0 l
    | false, true => s.loadTrain 1 l
    | false, false => { s with dryer := { s.dryer with untreated := u64 (s.dryer.untreated + l) } }
  else s

/-- The confirmed rates a record's allocation reads, slot by slot (R155, R168). -/
def State.ratesFor (s : State) (r : IntervalRecord) : Vector Int 33 :=
  Vector.ofFn fun i => s.nom.rateFor i.val ((r.endTime - r.length) / 3600)

/-- The account book's part (R167, R179), with DAY_CLOSED to COM (R180). -/
def State.bookTakes (r : IntervalRecord) (s : State) : State :=
  let x := s.book.take (s.ratesFor r) r
  { s with book := x.1, ports := s.ports.raiseCom .dayClosed x.2 }

/-- A change made where a condition holds. -/
def State.onlyIf (b : Bool) (f : State → State) (s : State) : State := if b then f s else s

/-- The blocks `who` act on a completed record (R64). `order` says whether the caverns' recomputation comes before or
after the allocation (R178). Each cavern takes the record as its own event (R16), so the allocation may also fall
between two of them; before all six or after all six is the model's choice (notes/assumptions/28.md). -/
def State.takeRecord (order : Order) (who : Readers) (r : IntervalRecord) (s : State) : State :=
  match order with
  | .movementFirst =>
    ((s.onlyIf who.caverns (·.cavernsTake r)).onlyIf who.dryer (·.dryerTakes r)).onlyIf who.book (·.bookTakes r)
  | .movementLast =>
    ((s.onlyIf who.book (·.bookTakes r)).onlyIf who.dryer (·.dryerTakes r)).onlyIf who.caverns (·.cavernsTake r)

/-- The blocks that are not among these. -/
def otherReaders (w : Readers) : Readers := { caverns := !w.caverns, dryer := !w.dryer, book := !w.book }

/-- Whether there is a block among these. -/
def anyReader (w : Readers) : Bool := w.caverns || w.dryer || w.book

/-- A completion handed to the three blocks: all but `w.later` take it at once, and it stands untaken for those. -/
def State.handOn (w : Taking) (r : IntervalRecord) (s : State) : State :=
  let s1 := s.takeRecord w.order (otherReaders w.later) r
  if anyReader w.later then
    { s1 with flow := { s1.flow with untaken := s1.flow.untaken ++ [{ record := r, taking := w }] } }
  else s1

/-- The completions that stand untaken are taken, oldest first. They are at the latest when time passes: at the next
tick, or at a step on an empty queue (notes/assumptions/28.md). -/
def State.takeUntaken (s : State) : State :=
  let s1 := s.flow.untaken.foldl (fun t u => t.takeRecord u.taking.order u.taking.later u.record) s
  { s1 with flow := { s1.flow with untaken := [] } }

/-! ### The close (R58, R59, R63) -/

/-- What each channel enters into the record of a close, and the channel afterwards. -/
def State.closings (s : State) : Vector (ChannelResult × PulseChannel) 8 :=
  Vector.ofFn fun i => closeChannel s.metro s.params.cv s.move.mode s.survey.points i s.flow.channels[i]

/-- The record of the open interval, closed now (R63). -/
def State.closingRecord (kind : RecordKind) (lost : Bool) (s : State) : IntervalRecord :=
  recordOf s.flow.nextSeq kind s.time.clock s.time.openTicks s.move.mode lost (Vector.ofFn fun i => s.closings[i].1)

/-- The open interval closed: the record completed, entered into the log and handed on (R63, R64, R66). -/
def State.closeInterval (kind : RecordKind) (lost : Bool) (w : Taking) (s : State) : State :=
  let r := s.closingRecord kind lost
  let f : Flow := { s.flow with channels := Vector.ofFn fun i => s.closings[i].2 }
  ({ s with
      flow := f.enter (.interval r)
      ports := (s.ports.raiseMet .meteringQuality r.raisesQuality).raiseOps .meteringQuality r.raisesQuality } : State)
    |>.handOn w r

/-- A new interval opened at the present clock (R58, R61). -/
def State.openInterval (short : Bool) (s : State) : State :=
  { s with time := { s.time with openStart := s.time.clock, openTicks := 0, openShort := short } }

/-- The kind of the open interval's record at a close by running (R58, R59). -/
def State.openKind (s : State) : RecordKind := if s.time.openShort then .short else .normal

/-- The GAP record of a completion of start-up (R65). -/
def State.writeGap (s : State) : State :=
  let previous := s.flow.log.getLast?.map LogRecord.endTime
  { s with flow := s.flow.enter (.gap s.flow.nextSeq s.time.clock previous s.time.lost) }

/-! ### Clock status -/

/-- CLOCK_LOST raised in every port's cause set (R57). -/
def State.raiseClockLost (s : State) : State :=
  { s with ports := ((s.ports.raiseOps .clockLost true).raiseCom .clockLost true).raiseMet .clockLost true }

/-- Every hour recomputed on the table as it stands, and seen by demand (R154). -/
def State.recomputeAll (s : State) : State := (s.confirm (fun _ => true) s.nom).propagate false

/-- A placement (R148). -/
def State.place (s : State) : State :=
  (s.confirm (fun _ => true) (s.nom.place (s.time.clock / 3600) s.params.leadTime)).propagate false

/-! ### Elapsed time -/

/-- The millisecond timers advanced by `d` milliseconds: debounce, attempt timer, settle wait (R71, R72, R128). -/
def State.passMs (d : Nat) (s : State) : State :=
  { s with
    time := { s.time with elapsedMs := s.time.elapsedMs + d }
    prot := { s.prot with channels := Vector.ofFn fun c =>
      { s.prot.channels[c] with timer := (s.prot.channels[c]).timer.map (· - d) } }
    link := { s.link with
      flight := s.link.flight.map fun f => { f with timer := f.timer.map (· - d) }
      settle := s.link.settle.map (· - d) } }

/-- The timers of seconds advanced by one: changeover, units, stop delay, towers; run seconds and adsorption seconds
(R6, R85, R87, R100, R108, R114). R113 leaves open whether a switch made by the adsorption second of a tick comes before the
taking of the record that closes at that tick; that it does is the model's choice (notes/assumptions/29.md), and so is
the whole second that a timer started since the last tick loses (31.md). -/
def State.passSecond (s : State) : State :=
  { s with
    move := { s.move with changeover := s.move.changeover.map fun c => { c with seconds := c.seconds - 1 } }
    duty := s.duty.second
    dryer := { s.dryer with trains := Vector.ofFn fun t => (s.dryer.trains[t]).second (s.trainEnv t) } }

/-- The clock after a tick (R57): it stays at its greatest value and becomes LOST there. -/
def TimeBase.tick (t : TimeBase) : TimeBase :=
  if t.clock < Config.clockMax then { t with clock := t.clock + 1 } else { t with lost := true }

/-- The second of a running time base: the clock's tick, a tick of the open interval, and the hour event, raised where the
VALID clock has reached a whole hour by it (R57, R59, R60). -/
def TimeBase.second (t : TimeBase) : TimeBase :=
  let t1 := t.tick
  { t1 with openTicks := t1.openTicks + 1, hourRaised := !t1.lost && t1.clock % 3600 == 0 }

/-- The tick at which the clock becomes LOST (R57, R59, R149): the open interval is closed as SHORT and flagged, a new
one opens, CLOCK_LOST is raised, and every hour is recomputed. -/
def State.clockBecomesLost (s : State) : State :=
  (((s.closeInterval .short true .atOnce).openInterval false).raiseClockLost).recomputeAll

/-- One tick of an SC6 that runs and has no completion untaken (R57): the elapsed time reaches its next whole second, and
all that is counted on it. The order of the counts, and that what else is due at that second acts after them, the ages of
the points (R36) among them, are the model's choices (notes/assumptions/34.md). -/
def State.second (s : State) : State :=
  let s1 := s.passMs (1000 - s.time.elapsedMs % 1000)
  let s2 := s1.passSecond
  let s3 : State := { s2 with time := s2.time.second }
  let s4 := s3.agePoints.propagate false
  if s4.time.lost && !s.time.lost then s4.clockBecomesLost else s4

/-- One tick of a running SC6 (R57): what the last instant left untaken is taken before time passes. -/
def State.tick (s : State) : State := s.takeUntaken.second

end Sys2Proof.Machine
end

