-- ==== Sys2Proof/Machine/Lifecycle.lean ====
section
/-! DEFINITION. The shared operations of a reset and of a start-up (R22, R40, R67, R84, R106, R124, R140, R158, R182,
R200, R207, R208): volatile state at its reset values, the image checks, and the actions on completion. -/

namespace Sys2Proof.Machine

/-- A cavern at a reset (Table 1-5): the metered inventory is kept. -/
def Cavern.reset (enabled : Bool) (c : Cavern) : Cavern :=
  { state := if enabled then .idle else .disabled, restricted := false, linkLost := true, pUnknown := true,
    inventory := c.inventory, ring := [] }

/-- The movement controller at a reset (Table 1-5). -/
def Movement.reset (p : OpParams) (m : Movement) : Movement :=
  { mode := .hold, wanted := .hold, changeover := none,
    caverns := Vector.ofFn fun i => (m.caverns[i]).reset p.caverns[i].enabled, boost := false }

/-- A compressor unit at a reset (Table 5-6): run seconds and start log are kept. -/
def CompUnit.reset (inService : Bool) (u : CompUnit) : CompUnit :=
  { u with state := if inService then .stopped else .outOfService, timer := none, inhibited := false }

/-- The duty controller at a reset (Table 5-6). -/
def Duty.reset (p : OpParams) (d : Duty) : Duty :=
  { units := Vector.ofFn fun i => (d.units[i]).reset p.units[i].inService, queue := [], demand := 0, stopDelay := none }

/-- A train at a reset (Table 6-5). -/
def Train.reset (inService : Bool) (t : Train) : Train :=
  { state := if inService then .standby else .outOfService, dewHigh := false,
    towers := Vector.ofFn fun i => (t.towers[i]).reset }

/-- The dryer controller at a reset (Table 6-5). -/
def Dryer.reset (p : OpParams) (d : Dryer) : Dryer :=
  { trains := Vector.ofFn fun t => (d.trains[t]).reset p.trains[t].inService, untreated := 0 }

/-- The protection matrix at a reset (Table 7-5): the pins keep their levels. -/
def Protection.reset (p : Protection) : Protection :=
  { pins := p.pins, channels := Vector.replicate 32 .atReset, records := Vector.replicate 13 .clear, advisory := 0 }

/-- The nomination controller at a reset (Table 8-4). -/
def Nominations.reset (n : Nominations) : Nominations :=
  { n with injPot := 0, wdrPot := 0, injEff := 0, wdrEff := 0, previous := none, net := 0, counter := 0 }

/-- The flow computer at a reset (Table 3-6): the channels' inputs are at their present levels, and a completion not yet
taken is never taken (R167). -/
def Flow.reset (f : Flow) : Flow :=
  { f with channels := Vector.ofFn fun i => .atReset f.channels[i].a f.channels[i].b, untaken := [] }

/-- The time base at a reset (Table 3-6): the clock and its status are R57's matter; the open interval is lost, and an
hour event not yet taken is not raised afterwards (section 8.10). -/
def TimeBase.reset (t : TimeBase) : TimeBase :=
  { clock := t.clock, lost := t.lost, elapsedMs := 0, openStart := t.clock, openTicks := 0, openShort := true,
    hourRaised := false }

/-- Every volatile state of every block at its reset value, for the operating parameters `p` (R207); every output
inactive. -/
def State.resetVolatile (p : OpParams) (s : State) : State :=
  { power := s.power
    time := s.time.reset
    survey := .atReset
    link := .atReset p
    flow := s.flow.reset
    move := s.move.reset p
    duty := s.duty.reset p
    dryer := s.dryer.reset p
    prot := s.prot.reset
    nom := s.nom.reset
    book := { s.book with opening := Vector.replicate 32 none }
    ports := .atReset p
    params := p
    metro := s.metro
    store := s.store
    out := .inactive
    pending := s.pending }

/-- A reset begins (R207). -/
def State.beginReset (k : ResetKind) (s : State) : State :=
  let s1 := s.resetVolatile s.params
  { s1 with power := { s1.power with phase := .inReset, lastReset := k, restart := .none } }

/-- The image checks (R208, step 1): a valid image puts its content in force; an invalid operating image puts the
defaults in force and is left as it was found (R202); an invalid metrology image is stored afresh for recovery (R206). -/
def State.checkImages (s : State) : State :=
  let p := checkOpImage s.store.opImage
  let m := checkMetImage s.store.metImage
  { s with
    params := p.getD .default
    metro := m.getD .recovery
    store := { s.store with
      opValid := p.isSome
      metImage := if m.isSome then s.store.metImage else some (metImage .recovery) } }

/-- Start-up begins (R208, steps 1 and 2): the images are checked and every volatile state takes its reset value for
the parameters then in force. -/
def State.startUp (s : State) : State :=
  let s1 := s.checkImages
  let s2 := s1.resetVolatile s1.params
  { s2 with power := { s2.power with phase := .startingUp, restart := .none } }

/-! ### Completion (R208, step 3) -/

/-- The time base at the completion of start-up (R57, R65): elapsed time 0, the GAP record, the first interval open as
SHORT, and CLOCK_LOST where the clock is LOST. -/
def State.completeTime (s : State) : State :=
  let s1 : State := { s with power := { s.power with phase := .running }, time := { s.time with elapsedMs := 0 } }
  let s2 := s1.writeGap.openInterval true
  if s2.time.lost then s2.raiseClockLost else s2

/-- The trains and units at the completion of start-up (R106, R124). -/
def State.completeEquipment (s : State) : State :=
  { s with
    dryer := { s.dryer with trains := Vector.ofFn fun t => (s.dryer.trains[t]).startUp (s.trainEnv t) }
    duty := { s.duty with units := Vector.ofFn fun i => (s.duty.units[i]).reset s.params.units[i].inService } }

/-- The nomination controller at the completion of start-up (R158): a placement, or the recomputation of R149. -/
def State.completeNominations (s : State) : State := if s.time.lost then s.recomputeAll else s.place

/-- The two orders R152 leaves open at the completion of start-up: the AUTO evaluation before or after the nomination
controller's recomputation. What a change of mode recomputes before the placement, and N meanwhile, is the model's choice
(`Nominations.outside`, notes/assumptions/11.md). A placement is an AUTO evaluation event of its own (R3). -/
def State.completeOrdered (order : Order) (s : State) : State :=
  match order with
  | .movementFirst =>
    let s1 := s.autoEvaluate.completeNominations
    if s1.time.lost then s1 else s1.autoEvaluate
  | .movementLast => s.completeNominations.autoEvaluate

/-- Start-up completes (R208, step 3). R208 sets no order among the blocks' actions; the AUTO evaluation before the
channels' first evaluation (R140) is the model's choice (notes/assumptions/29.md). -/
def State.complete (order : Order) (s : State) : State :=
  ((((s.completeTime.completeEquipment).propagate false).completeOrdered order).evalChannels fun _ => true).propagate false

end Sys2Proof.Machine
end

