-- ==== Sys2Proof/Machine/Reads.lean ====
section
/-! DEFINITION. The contents of the read answers (section 10.6, R205, R209): each a list of bytes laid out field by
field, and the codes of R184 for the named values that appear in answers alone. -/

namespace Sys2Proof.Machine

/-! ### Codes (Table 10-10) -/

/-- HOLD 0, INJECT 1, WITHDRAW 2, CHANGEOVER 3, SHUTDOWN 4. -/
def SiteMode.code : SiteMode → Nat
  | .hold => 0
  | .inject => 1
  | .withdraw => 2
  | .changeover => 3
  | .shutdown => 4

/-- DISABLED 0, IDLE 1, FLOWING 2, TRIPPED 3. -/
def CavernState.code : CavernState → Nat
  | .disabled => 0
  | .idle => 1
  | .flowing => 2
  | .tripped => 3

/-- STOPPED 0, STARTING 1, RUNNING 2, COOLDOWN 3, TRIPPED 4, OUT_OF_SERVICE 5. -/
def UnitState.code : UnitState → Nat
  | .stopped => 0
  | .starting => 1
  | .running => 2
  | .cooldown => 3
  | .tripped => 4
  | .outOfService => 5

/-- OUT_OF_SERVICE 0, STANDBY 1, IN_SERVICE 2, OFF_SPEC 3, TRIPPED 4. -/
def TrainState.code : TrainState → Nat
  | .outOfService => 0
  | .standby => 1
  | .inService => 2
  | .offSpec => 3
  | .tripped => 4

/-- READY 0, ADSORBING 1, LOADED 2, HEATING 3, COOLING 4, OUT_OF_SERVICE 5. -/
def TowerState.code : TowerState → Nat
  | .ready => 0
  | .adsorbing => 1
  | .loaded => 2
  | .heating => 3
  | .cooling => 4
  | .outOfService => 5

/-- UNKNOWN 0, GOOD 1, HELD 2, FAILED 3. -/
def Quality.code : Quality → Nat
  | .unknown => 0
  | .good => 1
  | .held => 2
  | .failed => 3

/-- DOWN 0, DEGRADED 1, UP 2. -/
def Health.code : Health → Nat
  | .down => 0
  | .degraded => 1
  | .up => 2

/-- REQUESTED 0, FIRM 1, CURRENT 2. -/
def NomState.code : NomState → Nat
  | .requested => 0
  | .firm => 1
  | .current => 2

/-- EFFECTIVE 0, POTENTIAL 1, NONE 2. -/
def Basis.code : Basis → Nat
  | .effective => 0
  | .potential => 1
  | .none => 2

/-- INACTIVE 0, ACTIVE 1, SUSPENDED 2. -/
def SlotState.code : SlotState → Nat
  | .inactive => 0
  | .active => 1
  | .suspended => 2

/-- HOLD 0, EARLY 1. -/
def AnswerMode.code : AnswerMode → Nat
  | .hold => 0
  | .early => 1

/-- EMPTY 0, PENDING 1, READY 2. -/
def ResultSlot.code : ResultSlot → Nat
  | .empty => 0
  | .pending => 1
  | .ready _ => 2

/-- POWER_ON 0, RESET_INPUT 1, RESTART 2. -/
def ResetKind.code : ResetKind → Nat
  | .powerOn => 0
  | .resetInput => 1
  | .restart => 2

/-- NORMAL 0, SHORT 1. -/
def RecordKind.code : RecordKind → Nat
  | .normal => 0
  | .short => 1

/-- Clock status: VALID 0, LOST 1. -/
def clockStatus (lost : Bool) : List Byte := beBool lost

/-! ### READ_STATUS (R195) -/

/-- The time base's part. -/
def timePart (s : State) : List Byte :=
  be 4 s.time.clock ++ clockStatus s.time.lost ++ be 4 (u32 (s.time.elapsedMs / 1000)) ++
    beOpt 4 (if s.time.lost then none else some (s.time.clock / 3600)) ++
    beDay (if s.time.lost then none else some (gasDay s.book.startHour s.time.clock))

/-- The movement controller's part. -/
def movementPart (s : State) : List Byte :=
  be 1 s.params.siteControl.code ++ be 1 s.move.mode.code ++ be 1 s.move.wanted.mode.code ++
    beOpt 1 (s.move.changeover.map fun c => c.target.mode.code) ++ beOpt 4 (s.move.changeover.map (·.seconds)) ++
    beBool s.move.boost

/-- One cavern's part. -/
def cavernPart (c : Cavern) : List Byte :=
  be 1 c.state.code ++ beBool c.restricted ++ beBool c.linkLost ++ beBool c.pUnknown ++ beInt 8 c.inventory

/-- The survey scheduler's part. -/
def surveyPart (v : Survey) : List Byte :=
  beBool v.inPass ++ be 4 v.completed ++ be 4 v.overrun ++ be 4 v.consecutive

/-- The link's part. -/
def linkPart (s : State) : List Byte :=
  ((List.finRange 6).map fun u =>
    beBool s.params.link.enabled[u] ++ be 1 s.link.health[u].health.code ++ be 4 s.link.health[u].failures).flatten ++
    lineBits s.link.lines

/-- Six start log entries, none for unused places. -/
def startLogPart (log : List Nat) : List Byte :=
  be 4 log.length ++ ((List.range Config.startLogSize).map fun k => beOpt 4 log[k]?).flatten

/-- One compressor unit's part. -/
def unitPart (s : State) (i : Fin 4) : List Byte :=
  let u := s.duty.units[i]
  be 1 u.state.code ++ beOpt 4 u.timer ++ s.params.units[i].bytes ++ be 4 u.runSeconds ++ beBool u.inhibited ++
    beBool u.available ++ beBool u.feedback ++ beBool s.outputs.run[i] ++ startLogPart u.startLog

/-- The duty controller's part. -/
def dutyPart (s : State) : List Byte :=
  be 4 s.duty.queue.length ++
    (s.duty.queue.map fun q => be 1 q.unit.val ++ be 1 q.kind.code ++ be 1 (s.dutyEnv.level q)).flatten ++
    beOpt 1 (s.duty.slotHolder.map (·.val)) ++ be 4 s.duty.demand ++ beOpt 4 s.duty.stopDelay

/-- One train's part. -/
def trainPart (s : State) (t : Fin 2) : List Byte :=
  let x := s.dryer.trains[t]
  be 1 x.state.code ++ beBool x.dewHigh ++ beBool x.available ++ beBool s.outputs.heater[t]

/-- One tower's part. -/
def towerPart (s : State) (i : Fin 4) : List Byte :=
  let w := s.dryer.trains[i.val / 2].towers[i.val % 2]
  be 1 w.state.code ++ be 8 w.loading ++ be 4 w.adsSeconds ++ beBool w.pending ++ beOpt 4 w.timer ++
    beBool s.outputs.towerSelect[i]

/-- One protection channel's part. -/
def channelPart (s : State) (c : Fin 32) : List Byte :=
  let k := s.prot.channels[c]
  s.params.channels[c].bytes ++ beBool k.source ++ beBool k.live ++ beOpt 4 k.timer

/-- One trip record's part. R195 gives `none` for the cause of a record without first-out; the clock value and status of it
sent as none too are the model's choice (notes/assumptions/30.md). -/
def tripPart (r : TripRecord) : List Byte :=
  beBool r.latched ++ beOpt 1 (r.firstOut.map (·.cause.code)) ++ beOpt 4 (r.firstOut.map (·.clock)) ++
    beOpt 1 (r.firstOut.map fun f => if f.lost then 1 else 0) ++ be 5 r.causes.toNat

/-- The capacity and nominations part. -/
def nominationPart (s : State) : List Byte :=
  be 8 s.nom.injPot ++ be 8 s.nom.wdrPot ++ be 8 s.nom.injEff ++ be 8 s.nom.wdrEff ++ beInt 1 s.hourDirection ++
    beInt 8 s.nom.net ++ be 4 s.nom.firm ++ be 1 s.params.leadTime ++ be 4 s.nom.counter

/-- Day site totals. -/
def totalsPart (t : DayTotals) : List Byte :=
  beInt 8 t.eNet ++ beInt 8 t.eFuel ++ beInt 8 t.eRegen ++ be 4 t.records ++ be 4 t.substituted

/-- The account book's part. -/
def bookPart (b : Book) : List Byte :=
  beInt 8 b.openingTotal ++ be 1 b.startHour ++ beDay b.openDay ++ totalsPart b.totals ++ be 4 b.lastSeq

/-- The parameter store's part (R209). -/
def storePart (s : State) : List Byte :=
  beBool (!s.store.opValid) ++ beBool (!s.metro.valid) ++
    be 1 (bitsToNat (Vector.ofFn fun i : Fin 8 => s.metro.isCalibrated i)) ++
    be 1 (if s.metro.valid then 0 else s.metro.kMarks.toNat) ++
    be 3 (if s.metro.valid then 0 else s.metro.siteMarks.toNat) ++
    beBool s.store.sealOpen ++ be 4 s.store.changeList.length ++ be 1 s.power.lastReset.code

/-- The part of the port that reads. -/
def portPart (s : State) (p : Port) : List Byte :=
  be 2 (s.ports.get p).causes.toNat ++ be 2 (s.ports.get p).mask.toNat ++ be 4 s.params.rateOps ++
    be 4 s.params.rateCom ++ be 4 s.params.rateMet ++
    (match remotePort? p with
     | some rp => be 1 (s.ports.remote rp).mode.code ++ be 1 (s.ports.remote rp).slot.code
     | none => [])

/-- The content of READ_STATUS at a port (Table 10-5). -/
def statusContent (p : Port) (s : State) : List Byte :=
  timePart s ++ movementPart s ++ (s.move.caverns.toList.map cavernPart).flatten ++ surveyPart s.survey ++
    be 4 s.params.cv ++ linkPart s ++ (unitIndices.map (unitPart s)).flatten ++ dutyPart s ++
    ((List.finRange 2).map (trainPart s)).flatten ++ ((List.finRange 4).map (towerPart s)).flatten ++
    be 8 s.dryer.untreated ++ be 2 (bitsToNat s.prot.pins) ++
    ((List.finRange 32).map (channelPart s)).flatten ++ (s.prot.records.toList.map tripPart).flatten ++
    be 4 s.prot.advisory.toNat ++ nominationPart s ++ bookPart s.book ++ storePart s ++ portPart s p

/-! ### The other reads -/

/-- One point entry (Table 10-6). -/
def pointEntry (p : PointState) : List Byte :=
  beInt 4 p.value ++ be 1 p.quality.code ++ be 2 p.age ++
    be 1 ((if p.alarmHigh then 1 else 0) + if p.alarmLow then 2 else 0)

/-- The content of READ_POINTS (R196). -/
def pointsContent (s : State) : List Byte := (s.survey.points.toList.map pointEntry).flatten

/-- One channel of an interval record (Table 10-7). -/
def resultBytes (r : ChannelResult) : List Byte :=
  be 4 r.fwd ++ be 4 r.rev ++ be 8 r.volFwd ++ be 8 r.volRev ++ beInt 8 r.energy ++ be 2 r.flags.toNat

/-- The content of a log record (Table 10-7, R197). -/
def recordContent : LogRecord → List Byte
  | .interval r =>
    be 4 r.seq ++ be 1 r.kind.code ++ be 4 r.endTime ++ be 1 r.length ++ be 1 r.mode.code ++ clockStatus r.lost ++
      beInt 8 r.eNet ++ beInt 8 r.eFuel ++ beInt 8 r.eRegen ++ be 8 r.withdrawal ++
      (r.channels.toList.map resultBytes).flatten
  | .gap seq endTime previous lost => be 4 seq ++ be 1 2 ++ be 4 endTime ++ beOpt 4 previous ++ clockStatus lost

/-- The seven day counters in the order of Table 9-1. -/
def countersBytes (d : DayCounters) : List Byte :=
  be 8 d.injected ++ be 8 d.withdrawn ++ be 8 d.fuel ++ be 8 d.drying ++ be 8 d.cut ++ be 8 d.transfersIn ++
    be 8 d.transfersOut

/-- One account slot (R198). -/
def slotBytes (sl : Slot) : List Byte :=
  be 1 sl.state.code ++ be 8 sl.space ++ be 8 sl.injRight ++ be 8 sl.wdrRight ++ beInt 8 sl.inventory ++
    be 8 sl.fuel ++ be 8 sl.drying ++ countersBytes sl.day

/-- The content of READ_ACCOUNTS (R198). -/
def accountsContent (s : State) : List Byte := (s.book.slots.toList.map slotBytes).flatten

/-- The content of a day record (R198). -/
def dayContent (d : DayRecord) : List Byte :=
  beInt 4 d.day ++ (d.slots.toList.map fun x => beInt 8 x.1 ++ countersBytes x.2).flatten ++ totalsPart d.totals

/-- One nomination entry (R199). -/
def entryBytes (e : NomEntry) : List Byte :=
  be 1 e.slot ++ be 4 e.hour ++ beInt 8 e.requested ++ beInt 8 e.clamped ++ beInt 8 e.confirmed ++ be 1 e.state.code

/-- One hour summary (R199). -/
def summaryBytes (m : Summary) : List Byte :=
  be 4 m.hour ++ beInt 1 m.direction ++ be 1 m.basis.code ++ beInt 8 m.capacity ++ beInt 8 m.withFlow ++
    beInt 8 m.limit ++ beBool m.curtailed

/-- The previous-hour copy (R199): while it is empty its rates are free values (notes/assumptions/25.md). -/
def previousBytes : Option PreviousHour → List Byte
  | some p => be 4 p.hour ++ (p.rates.toList.map (beInt 8)).flatten
  | none => beNone 4 ++ ((List.finRange 32).map fun i => be 8 (Config.emptyCopyRate i).toNat).flatten

/-- The content of READ_NOMINATIONS (R199). -/
def nominationsContent (s : State) : List Byte :=
  beOpt 4 (if s.time.lost then none else some (s.time.clock / 3600)) ++ be 4 s.nom.firm ++ be 1 s.params.leadTime ++
    be 4 s.nom.counter ++ be 4 s.nom.entries.length ++ (s.nom.entries.map entryBytes).flatten ++
    (s.nom.summaries.map summaryBytes).flatten ++ previousBytes s.nom.previous

/-- One entry of the metrology change list (Table 11-1). -/
def changeBytes (e : ChangeEntry) : List Byte :=
  be 4 e.clock ++ clockStatus e.lost ++ be 1 e.param ++ beOpt 1 (e.channel.map (·.val)) ++ beInt 4 e.before ++
    beInt 4 e.after

/-- The content of READ_METROLOGY_LIST (R205). -/
def changeListContent (s : State) : List Byte :=
  be 4 s.store.changeList.length ++ (s.store.changeList.map changeBytes).flatten

/-- The outcome of a remote access: its code and its cause, FFh where it has none (Table 10-10). -/
def outcomeBytes : LinkOutcome → List Byte
  | .completed regs => be 1 0 ++ beNone 1 ++ (regs.map fun r => be 2 r.toNat).flatten
  | .rejected => be 1 1 ++ beNone 1
  | .failed c => be 1 2 ++ be 1 c.code

/-- The content of a FETCH_REMOTE answered OK (R82, R83): kind, unit, device, first register, count, outcome, cause and
the registers of a completed read (notes/assumptions/20.md). -/
def resultContent (r : RemoteResult) : List Byte :=
  beBool r.isWrite ++ be 1 (r.unit.val + 1) ++ be 1 r.device.val ++ be 1 r.first.val ++ be 1 r.count ++
    outcomeBytes r.outcome

/-- The seven registers of a staging buffer (R78). -/
def stagingContent (r : Remote) : List Byte := (r.staging.toList.map fun x => be 2 x.toNat).flatten

end Sys2Proof.Machine
end

