-- ==== Sys2Proof/Machine/PortCmds.lean ====
section
/-! DEFINITION. The commands of the port controllers (chapter 10): the read requests, causes and masks, line rates, and
the events at a port's receiver. -/

namespace Sys2Proof.Machine

/-! ### Reads (section 10.6) -/

/-- READ_STATUS (R195). -/
def actReadStatus (p : Port) : Act := fun _ s => accept s (statusContent p)

/-- READ_STATUS (R195). -/
def execReadStatus (r : Request) (s : State) : Host.Outcome State Fault Refusal :=
  request .readStatus r (actReadStatus r.port) s

/-- READ_POINTS (R38, R196): from OPS it clears POINT_ALARM. -/
def actReadPoints (p : Port) : Act := fun _ s =>
  accept (if p = .ops then s.onPort .ops (·.clearCauses Cause.pointAlarm.mask) else s) pointsContent

/-- READ_POINTS (R38, R196). -/
def execReadPoints (r : Request) (s : State) : Host.Outcome State Fault Refusal :=
  request .readPoints r (actReadPoints r.port) s

/-- The oldest sequence number and the total count, or none for both while the log is empty (R197). -/
def logBounds (s : State) : List Byte :=
  match s.flow.oldest with
  | some o => be 4 o ++ be 4 s.flow.total
  | none => beNone 4 ++ beNone 4

/-- READ_INTERVALS (R197). -/
def actReadIntervals : Act := fun args s =>
  match args with
  | [seq] =>
    match s.flow.log.find? fun r => (r.seq : Int) == seq with
    | some r => accept s fun _ => recordContent r
    | none => (s, some (.refusedRange, logBounds s))
  | _ => refuse .refusedRange s

/-- READ_INTERVALS (R197). -/
def execReadIntervals (r : Request) (s : State) : Host.Outcome State Fault Refusal :=
  request .readIntervals r actReadIntervals s

/-- READ_ACCOUNTS (R198). -/
def actReadAccounts : Act := fun _ s => accept s accountsContent

/-- READ_ACCOUNTS (R198). -/
def execReadAccounts (r : Request) (s : State) : Host.Outcome State Fault Refusal :=
  request .readAccounts r actReadAccounts s

/-- A gas day number field of "none" (R183). -/
def noDay : Int := -2147483648

/-- The day record asked for: the newest for "none", otherwise the one of that number (R198). -/
def findDay (day : Int) (l : List DayRecord) : Option DayRecord :=
  if day = noDay then l.getLast? else l.find? fun d => d.day == day

/-- READ_DAY_RECORDS (R198). -/
def actReadDayRecords : Act := fun args s =>
  match args with
  | [day] =>
    match findDay day s.book.dayRecords with
    | some d => accept s fun _ => dayContent d
    | none =>
      (s, some (.refusedRange,
        beDay (s.book.dayRecords.head?.map (·.day)) ++ beDay (s.book.dayRecords.getLast?.map (·.day))))
  | _ => refuse .refusedRange s

/-- READ_DAY_RECORDS (R198). -/
def execReadDayRecords (r : Request) (s : State) : Host.Outcome State Fault Refusal :=
  request .readDayRecords r actReadDayRecords s

/-- READ_NOMINATIONS (R199). -/
def actReadNominations : Act := fun _ s => accept s nominationsContent

/-- READ_NOMINATIONS (R199). -/
def execReadNominations (r : Request) (s : State) : Host.Outcome State Fault Refusal :=
  request .readNominations r actReadNominations s

/-- READ_PARAMETERS (R199): OPERATING 0, METROLOGY 1. -/
def actReadParameters : Act := fun args s =>
  if args = [0] then accept s (·.params.bytes)
  else if args = [1] then accept s (·.metro.params.bytes)
  else refuse .refusedRange s

/-- READ_PARAMETERS (R199). -/
def execReadParameters (r : Request) (s : State) : Host.Outcome State Fault Refusal :=
  request .readParameters r actReadParameters s

/-! ### Causes and masks (R193, R194) -/

/-- A 16-bit cause field, none where one of bits 11–15 is set (R193, R194). -/
def causeField (v : Int) : Option (BitVec 11) := if within 0 2047 v then some (BitVec.ofNat 11 v.toNat) else none

/-- ACK_CAUSES (R194). -/
def actAckCauses (p : Port) : Act := fun args s =>
  match args with
  | [v] =>
    match causeField v with
    | some m => accept (s.onPort p (·.clearCauses m)) fun t => be 2 (t.ports.get p).causes.toNat
    | none => refuse .refusedRange s
  | _ => refuse .refusedRange s

/-- ACK_CAUSES (R194). -/
def execAckCauses (r : Request) (s : State) : Host.Outcome State Fault Refusal :=
  request .ackCauses r (actAckCauses r.port) s

/-- SET_MASK (R193). -/
def actSetMask (p : Port) : Act := fun args s =>
  match args with
  | [v] =>
    match causeField v with
    | some m =>
      accept (s.onPort p fun x => { x with mask := m })
        fun t => be 2 (t.ports.get p).mask.toNat ++ be 2 (t.ports.get p).causes.toNat
    | none => refuse .refusedRange s
  | _ => refuse .refusedRange s

/-- SET_MASK (R193). -/
def execSetMask (r : Request) (s : State) : Host.Outcome State Fault Refusal :=
  request .setMask r (actSetMask r.port) s

/-! ### Line rates (R191) -/

/-- SET_LINE_RATE (R191): the stored rate changes; the named port takes it up on its next entry into WAITING. -/
def actSetLineRate : Act := fun args s =>
  match lineRateArgs args with
  | some (p, rate) => accept (s.storeOp (s.params.setRate rate p))
  | none => refuse .refusedRange s

/-- SET_LINE_RATE (R191). -/
def execSetLineRate (r : Request) (s : State) : Host.Outcome State Fault Refusal :=
  request .setLineRate r actSetLineRate s

/-! ### Undefined kinds and receiver events (R185, R186, R188) -/

/-- A request whose kind value is in no row of Table 10-3 (R186, R189). -/
def execUndefinedRequestKind (r : Request) (kind : Byte) (s : State) : Host.Outcome State Fault Refusal :=
  (s.atPort r kind (refuse .refusedAccess)).done

/-- A completed frame with a wrong CRC-16 (R185, R188). -/
def execFrameCrcError (p : Port) (s : State) : Host.Outcome State Fault Refusal :=
  (if s.running then
    match (s.ports.get p).rx with
    | .waiting | .collecting => s.onPort p (·.enterWaiting (s.params.rate p))
    | .held => s.onPort p (·.heldFrameEnds)
    | .sending => s
  else s).done

/-- A byte joins the frame being collected, if one is (R185, R188). -/
def PortState.join (b : Byte) (p : PortState) : PortState := { p with frame := p.frame.map (· ++ [b]) }

/-- A length byte: outside 2–242 it abandons the frame being collected (R185); within, it joins the frame. -/
def execFrameLengthInvalid (p : Port) (length : Byte) (s : State) : Host.Outcome State Fault Refusal :=
  (if s.running then
    if 2 ≤ length.toNat ∧ length.toNat ≤ 242 then s.onPort p (·.join length) else s.dropFrame p
  else s).done

/-- A pause of more than 20 character times while a frame is being collected (R185, R188). -/
def execFramePauseTimeout (p : Port) (s : State) : Host.Outcome State Fault Refusal :=
  (if s.running then s.dropFrame p else s).done

/-- A frame completed at a port in HELD (R81, R188). -/
def execHeldFrameDiscard (p : Port) (s : State) : Host.Outcome State Fault Refusal :=
  (if s.running then
    match (s.ports.get p).rx with
    | .held => s.onPort p (·.heldFrameEnds)
    | .waiting | .collecting | .sending => s
  else s).done

/-- The last byte of a port's answer sent (R185, R191); the answer to RESTART makes its reset due (R188). -/
def execAnswerSent (p : Port) (s : State) : Host.Outcome State Fault Refusal :=
  (if s.running then
    match (s.ports.get p).rx with
    | .sending =>
      let s1 := s.onPort p (·.enterWaiting (s.params.rate p))
      if p = .ops ∧ s.power.restart = .answering then { s1 with power := { s1.power with restart := .due } } else s1
    | .waiting | .collecting | .held => s
  else s).done

/-- A byte C5h arriving at a port (R185, R188): it starts a frame in WAITING, and in HELD with none being collected; in
a frame it is data; while the port sends it is discarded. -/
def execFrameStart (p : Port) (s : State) : Host.Outcome State Fault Refusal :=
  (if s.running then
    match (s.ports.get p).rx with
    | .waiting => s.onPort p fun x => { x with rx := .collecting, frame := some [0xC5#8] }
    | .collecting => s.onPort p (·.join 0xC5#8)
    | .held =>
      s.onPort p fun x => if x.frame.isNone then { x with frame := some [0xC5#8] } else x.join 0xC5#8
    | .sending => s
  else s).done

end Sys2Proof.Machine
end

