-- ==== Sys2Proof/Machine/LinkCmds.lean ====
section
/-! DEFINITION. The commands of the wellhead link (chapter 4): remote access, staging, SET_LINK, and the events of the
field link. -/

namespace Sys2Proof.Machine

/-! ### Remote access (R78 to R83) -/

/-- Whether a port has an access queued or in flight (R80). -/
def Link.busyFor (rp : RemotePort) (l : Link) : Bool :=
  let own (e : Entry) : Bool :=
    match e.origin with
    | .port q _ => q == rp
    | .surveyRead _ _ | .surveyPoll => false
  l.queue.any own || (match l.flight with | some f => own f.entry | none => false)

/-- The slot's part of an accepted EARLY access (R82): PENDING, and an unfetched result discarded with REMOTE_DONE. -/
def State.beginEarly (rp : RemotePort) (s : State) : State :=
  let old := s.ports.remote rp
  let s1 : State := { s with ports := s.ports.setRemote { old with slot := .pending } rp }
  match old.slot with
  | .ready _ => s1.onPort rp.port (·.clearCauses Cause.remoteDone.mask)
  | .empty | .pending => s1

/-- A remote access by the conditions of R80, in their order. -/
def remoteAccess (rp : RemotePort) (write : Bool) : Act := fun args s =>
  match accessArgs args with
  | none => refuse .refusedRange s
  | some (u, d, f, n) =>
    if !s.params.link.enabled[u] then refuse .refusedState s
    else if s.link.busyFor rp then refuse .refusedBusy s
    else
      let remote := s.ports.remote rp
      let e : Entry :=
        { kind := if write then .write else .read, unit := u, device := d, first := f, count := n,
          values := if write then remote.staging.toList.take n else [], origin := .port rp remote.mode }
      match s.offer e with
      | none => refuse .refusedBusy s
      | some s1 =>
        match remote.mode with
        | .hold => (s1, none)
        | .early => (s1.beginEarly rp, some (.accepted, []))

/-- An action of a port with remote access; COM has none, and R186 refuses it before this. -/
def withRemote (p : Port) (f : RemotePort → Act) : Act := fun args s =>
  match remotePort? p with
  | some rp => f rp args s
  | none => refuse .refusedAccess s

/-- REMOTE_READ (R80 to R82). -/
def execRemoteRead (r : Request) (s : State) : Host.Outcome State Fault Refusal :=
  request .remoteRead r (withRemote r.port fun rp => remoteAccess rp false) s

/-- REMOTE_WRITE (R80 to R82). -/
def execRemoteWrite (r : Request) (s : State) : Host.Outcome State Fault Refusal :=
  request .remoteWrite r (withRemote r.port fun rp => remoteAccess rp true) s

/-- WRITE_STAGING (R78). -/
def actWriteStaging (rp : RemotePort) : Act := fun args s =>
  match args with
  | first :: values =>
    if within 0 6 first && decide (first + values.length ≤ 7) then
      let old := s.ports.remote rp
      let staging : Vector Reg16 7 := Vector.ofFn fun i =>
        if first.toNat ≤ i.val ∧ i.val < first.toNat + values.length then
          BitVec.ofInt 16 (values.getD (i.val - first.toNat) 0)
        else old.staging[i]
      accept { s with ports := s.ports.setRemote { old with staging := staging } rp }
    else refuse .refusedRange s
  | [] => refuse .refusedRange s

/-- WRITE_STAGING (R78). -/
def execWriteStaging (r : Request) (s : State) : Host.Outcome State Fault Refusal :=
  request .writeStaging r (withRemote r.port actWriteStaging) s

/-- READ_STAGING (R78). -/
def actReadStaging (rp : RemotePort) : Act := fun _ s => accept s fun t => stagingContent (t.ports.remote rp)

/-- READ_STAGING (R78). -/
def execReadStaging (r : Request) (s : State) : Host.Outcome State Fault Refusal :=
  request .readStaging r (withRemote r.port actReadStaging) s

/-- SET_ANSWER_MODE (R79). -/
def actSetAnswerMode (rp : RemotePort) : Act := fun args s =>
  match args with
  | [v] =>
    match AnswerMode.ofCode v with
    | some m => accept { s with ports := s.ports.setRemote { s.ports.remote rp with mode := m } rp }
    | none => refuse .refusedRange s
  | _ => refuse .refusedRange s

/-- SET_ANSWER_MODE (R79). -/
def execSetAnswerMode (r : Request) (s : State) : Host.Outcome State Fault Refusal :=
  request .setAnswerMode r (withRemote r.port actSetAnswerMode) s

/-- FETCH_REMOTE (R83). -/
def actFetchRemote (rp : RemotePort) : Act := fun _ s =>
  match (s.ports.remote rp).slot with
  | .empty => refuse .refusedState s
  | .pending => refuse .refusedBusy s
  | .ready result =>
    let s1 : State := { s with ports := s.ports.setRemote { s.ports.remote rp with slot := .empty } rp }
    accept (s1.onPort rp.port (·.clearCauses Cause.remoteDone.mask)) fun _ => resultContent result

/-- FETCH_REMOTE (R83). -/
def execFetchRemote (r : Request) (s : State) : Host.Outcome State Fault Refusal :=
  request .fetchRemote r (withRemote r.port actFetchRemote) s

/-! ### SET_LINK (R77) -/

/-- SET_LINK (R75 to R77). The order in which several units changed by one request act is left open: units 1 to 6 in turn,
each with its health, lines, channels and cancellations before the next, is the model's choice
(notes/assumptions/29.md). -/
def actSetLink : Act := fun args s =>
  match linkArgs args with
  | some l =>
    let s1 := s.storeOp { s.params with link := l }
    accept ((List.finRange 6).foldl (fun t u => t.relinkUnit s.params.link l u) s1)
  | none => refuse .refusedRange s

/-- SET_LINK (R77). -/
def execSetLink (r : Request) (s : State) : Host.Outcome State Fault Refusal := request .setLink r actSetLink s

/-! ### Events of the field link (R69 to R72) -/

/-- A frame received on the field link, sorted by R69; discarded while no transaction is in flight. -/
def execLinkFrameReceived (frame : LinkFrame) (s : State) : Host.Outcome State Fault Refusal :=
  (if s.running then
    match s.link.flight with
    | none => s
    | some f =>
      if !frame.intact then s.endTransaction f (.failed .badReply) none
      else if frame.tag ≠ f.tag then s
      else if frameAnswers f.entry frame then s.endTransaction f (frameOutcome frame) (some frame.lines)
      else s.endTransaction f (.failed .badReply) none
  else s).done

/-- The end of the transmission of a request frame: the attempt's timer starts (R72). -/
def execAttemptTransmitted (s : State) : Host.Outcome State Fault Refusal :=
  (if s.running then
    match s.link.flight with
    | some f =>
      if f.timer.isNone then { s with link := { s.link with flight := some { f with timer := some f.timeout } } } else s
    | none => s
  else s).done

/-- An attempt's timer expires (R72): the retry is sent, or the transaction fails TIMED_OUT. It acts on a transaction
in flight whose timer has run out. -/
def execAttemptTimeout (s : State) : Host.Outcome State Fault Refusal :=
  (if s.running then
    match s.link.flight with
    | some f =>
      if f.timer ≠ some 0 then s
      else if f.retry then s.endTransaction f (.failed .timedOut) none
      else
        { s with link := { s.link with
            flight := some { f with retry := true, timeout := s.params.link.timeout, timer := none } } }
    | none => s
  else s).done

/-- The settle wait expires (R71): the head of the queue, if any, is started. -/
def execSettleWaitExpiry (s : State) : Host.Outcome State Fault Refusal :=
  (if s.running && s.link.settle == some 0 then
    { s with link := ({ s.link with settle := none }).startNext s.params.link.timeout }
  else s).done

end Sys2Proof.Machine
end

