-- ==== Sys2Proof/Machine/MoveCmds.lean ====
section
/-! DEFINITION. The commands of the movement controller (chapter 1). -/

namespace Sys2Proof.Machine

/-- SET_SITE_CONTROL (R1, R2): a change to AUTO is an AUTO evaluation event. -/
def actSetSiteControl : Act := fun args s =>
  match args with
  | [v] =>
    match Control.ofCode v with
    | some c =>
      let s1 := s.storeOp { s.params with siteControl := c }
      accept (if s.params.siteControl = .manual ∧ c = .auto then s1.autoEvaluate else s1)
    | none => refuse .refusedRange s
  | _ => refuse .refusedRange s

/-- SET_SITE_CONTROL (R2). -/
def execSetSiteControl (r : Request) (s : State) : Host.Outcome State Fault Refusal :=
  request .setSiteControl r actSetSiteControl s

/-- SET_SITE_MODE (R4). -/
def actSetSiteMode : Act := fun args s =>
  match args with
  | [v] =>
    match Wanted.ofCode v with
    | none => refuse .refusedRange s
    | some w =>
      if s.params.siteControl = .auto then refuse .refusedState s
      else if s.move.mode = .shutdown then refuse .refusedState s
      else accept (s.applyWanted w)
  | _ => refuse .refusedRange s

/-- SET_SITE_MODE (R4). -/
def execSetSiteMode (r : Request) (s : State) : Host.Outcome State Fault Refusal :=
  request .setSiteMode r actSetSiteMode s

/-- SET_CHANGEOVER_TIME (R6). -/
def actSetChangeoverTime : Act := fun args s =>
  match args with
  | [v] => if within 300 3600 v then accept (s.storeOp { s.params with tChange := v.toNat }) else refuse .refusedRange s
  | _ => refuse .refusedRange s

/-- SET_CHANGEOVER_TIME (R6). -/
def execSetChangeoverTime (r : Request) (s : State) : Host.Outcome State Fault Refusal :=
  request .setChangeoverTime r actSetChangeoverTime s

/-- A cavern's ring emptied and RESTRICTED cleared (R16). -/
def State.emptyRing (i : Fin 6) (s : State) : State :=
  { s with move := { s.move with
      caverns := s.move.caverns.set i { s.move.caverns[i] with ring := [], restricted := false } } }

/-- SET_CAVERN (R16, R20). -/
def actSetCavern : Act := fun args s =>
  match cavernArgs args with
  | some (i, c) =>
    let s1 := s.storeOp { s.params with caverns := s.params.caverns.set i c }
    let s2 := if c.point = s.params.caverns[i].point then s1 else s1.emptyRing i
    accept (s2.propagate false)
  | none => refuse .refusedRange s

/-- SET_CAVERN (R20). -/
def execSetCavern (r : Request) (s : State) : Host.Outcome State Fault Refusal := request .setCavern r actSetCavern s

/-- SET_PIPELINE (R21). -/
def actSetPipeline : Act := fun args s =>
  match pipelineArgs args with
  | some (p, margin) =>
    accept ((s.storeOp { s.params with pipelinePoint := p, boostMargin := margin }).propagate false)
  | none => refuse .refusedRange s

/-- SET_PIPELINE (R21). -/
def execSetPipeline (r : Request) (s : State) : Host.Outcome State Fault Refusal :=
  request .setPipeline r actSetPipeline s

/-- SET_CAVERN_INVENTORY (R18). -/
def actSetCavernInventory : Act := fun args s =>
  match inventoryArgs args with
  | some (i, wh) =>
    accept { s with move := { s.move with
        caverns := s.move.caverns.set i { s.move.caverns[i] with inventory := wh } } }
  | none => refuse .refusedRange s

/-- SET_CAVERN_INVENTORY (R18). -/
def execSetCavernInventory (r : Request) (s : State) : Host.Outcome State Fault Refusal :=
  request .setCavernInventory r actSetCavernInventory s

/-- CHANGEOVER_EXPIRY (R7, R8): it acts in CHANGEOVER once the timer has run out, and not on a timer that another event of
the same instant has just started; the site reaches the target, and the end of the changeover is an AUTO evaluation
event. -/
def execChangeoverExpiry (s : State) : Host.Outcome State Fault Refusal :=
  (if s.running then
    match s.move.mode, s.move.changeover with
    | .changeover, some c => if c.seconds = 0 then (s.setMode c.target.mode none).autoEvaluate else s
    | _, _ => s
  else s).done

end Sys2Proof.Machine
end

