-- ==== Sys2Proof/Machine/SurveyCmds.lean ====
section
/-! DEFINITION. The commands of the survey scheduler (chapter 2). -/

namespace Sys2Proof.Machine

/-- SET_POINT (R25). -/
def actSetPoint : Act := fun args s =>
  match pointArgs args with
  | some (p, c) =>
    let s1 := s.storeOp { s.params with points := s.params.points.set p c }
    accept (s1.updatePoint p ((s.survey.points[p]).reconfigure s.params.points[p] c) false)
  | none => refuse .refusedRange s

/-- SET_POINT (R25). -/
def execSetPoint (r : Request) (s : State) : Host.Outcome State Fault Refusal := request .setPoint r actSetPoint s

/-- SET_SURVEY_PERIOD (R27): the value is clamped, and the grid anchored afresh. -/
def actSetSurveyPeriod : Act := fun args s =>
  match args with
  | [v] =>
    let taken := (clamp 250 60000 v).toNat
    let s1 := s.storeOp { s.params with surveyPeriod := taken }
    let s2 : State := { s1 with survey := { s1.survey with nextDue := s1.time.elapsedMs + taken } }
    if within 250 60000 v then accept s2 else (s2, some (.okClamped, be 4 taken))
  | _ => refuse .refusedRange s

/-- SET_SURVEY_PERIOD (R27). -/
def execSetSurveyPeriod (r : Request) (s : State) : Host.Outcome State Fault Refusal :=
  request .setSurveyPeriod r actSetSurveyPeriod s

/-- A due pass dropped, with SURVEY_LATE to OPS and MET where three or more in a row have been (R31). -/
def State.dropPass (s : State) : State :=
  let v := s.survey.drop
  let late := decide (3 ≤ v.consecutive)
  { s with survey := v, ports := (s.ports.raiseOps .surveyLate late).raiseMet .surveyLate late }

/-- PASS_DUE (R26): once the due instant has come the grid moves on by one period, and a pass starts in IDLE and is dropped
in IN_PASS. Where the instant is a whole second, CLOCK_TICK has raised every age before (R36 lets the rise of that second
come before or after a publication of the pass; that it comes before is the model's choice: notes/assumptions/34.md). -/
def execPassDue (samples : Vector Reg16 16) (s : State) : Host.Outcome State Fault Refusal :=
  (if s.running && decide (s.survey.nextDue ≤ s.time.elapsedMs) then
    let s1 : State := { s with survey := { s.survey with nextDue := s.survey.nextDue + s.params.surveyPeriod } }
    if s.survey.inPass then s1.dropPass else s1.startPass samples
  else s).done

end Sys2Proof.Machine
end

