-- ==== Sys2Proof/Machine/DutyCmds.lean ====
section
/-! DEFINITION. The commands of the compressor duty controller (chapter 5). -/

namespace Sys2Proof.Machine

/-- A queue with a MANUAL entry joined, or its level changed where the unit has one (R102). -/
def Duty.joinManual (i : Fin 4) (level : Nat) (d : Duty) : Duty :=
  if d.queued i then { d with queue := d.queue.map fun q => if q.unit = i then { q with level := level } else q }
  else { d with queue := d.queue ++ [{ unit := i, kind := .manual, level := level }] }

/-- START_UNIT (R102). -/
def actStartUnit : Act := fun args s =>
  match startArgs args with
  | none => refuse .refusedRange s
  | some (i, level) =>
    if s.params.units[i].source = .auto then refuse .refusedState s
    else if s.move.mode.stopsUnits then refuse .refusedState s
    else if s.duty.units[i].state ≠ .stopped then refuse .refusedState s
    else accept (({ s with duty := s.duty.joinManual i level } : State).propagate false)

/-- START_UNIT (R102). -/
def execStartUnit (r : Request) (s : State) : Host.Outcome State Fault Refusal := request .startUnit r actStartUnit s

/-- STOP_UNIT (R103): a stop, or the removal of the unit's queue entry. -/
def actStopUnit : Act := fun args s =>
  match unitArgs args with
  | none => refuse .refusedRange s
  | some i =>
    let d := s.duty.setUnit i ((s.duty.units[i]).stop s.params.duty.tCool)
    accept (({ s with duty := { d with queue := d.queue.filter fun q => q.unit != i } } : State).propagate false)

/-- STOP_UNIT (R103). -/
def execStopUnit (r : Request) (s : State) : Host.Outcome State Fault Refusal := request .stopUnit r actStopUnit s

/-- A unit's in-service parameter acting on its state (R93): it leaves the queue as it goes out of service, and comes
back STOPPED, or TRIPPED where a record of it is latched. -/
def State.serve (i : Fin 4) (inService : Bool) (s : State) : State :=
  let u := s.duty.units[i]
  if inService then
    if u.state = .outOfService then
      let s1 : State := { s with duty := s.duty.setUnit i { u with state := .stopped, timer := none } }
      if s.prot.latched .site || s.prot.latched (.unit i) then { s1 with duty := s1.duty.tripUnit i } else s1
    else s
  else
    let d := s.duty.setUnit i { u with state := .outOfService, timer := none, inhibited := false }
    { s with duty := { d with queue := d.queue.filter fun q => q.unit != i } }

/-- A queued entry following its unit's duty source (R96). -/
def Duty.retype (i : Fin 4) (p : UnitParams) (d : Duty) : Duty :=
  { d with queue := d.queue.map fun q =>
      if q.unit = i ∧ q.kind ≠ p.source then { q with kind := p.source, level := p.level } else q }

/-- SET_UNIT (R104). -/
def actSetUnit : Act := fun args s =>
  match setUnitArgs args with
  | none => refuse .refusedRange s
  | some (i, p) =>
    let st := s.duty.units[i].state
    if !p.inService && (st == .starting || st == .running || st == .cooldown) then refuse .refusedState s
    else
      let s1 := (s.storeOp { s.params with units := s.params.units.set i p }).serve i p.inService
      accept (({ s1 with duty := s1.duty.retype i p } : State).propagate false)

/-- SET_UNIT (R104). -/
def execSetUnit (r : Request) (s : State) : Host.Outcome State Fault Refusal := request .setUnit r actSetUnit s

/-- SET_DUTY (R105). -/
def actSetDuty : Act := fun args s =>
  match dutyArgs args with
  | some p => accept ((s.storeOp { s.params with duty := p }).propagate false)
  | none => refuse .refusedRange s

/-- SET_DUTY (R105). -/
def execSetDuty (r : Request) (s : State) : Host.Outcome State Fault Refusal := request .setDuty r actSetDuty s

/-- SET_RUN_SECONDS (R87): decisions already made are left as they are. -/
def actSetRunSeconds : Act := fun args s =>
  match runSecondsArgs args with
  | some (i, v) => accept { s with duty := s.duty.setUnit i { s.duty.units[i] with runSeconds := v } }
  | none => refuse .refusedRange s

/-- SET_RUN_SECONDS (R87). -/
def execSetRunSeconds (r : Request) (s : State) : Host.Outcome State Fault Refusal :=
  request .setRunSeconds r actSetRunSeconds s

/-- FEEDBACK_CHANGE (R86, R89, R90): the level is recorded, and the unit acts on a change of it by its state. -/
def execFeedbackChange (i : Fin 4) (active : Bool) (s : State) : Host.Outcome State Fault Refusal :=
  let u := s.duty.units[i]
  let s1 : State := { s with duty := s.duty.setUnit i { u with feedback := active } }
  (if s.running && active != u.feedback then
    match u.state, active with
    | .starting, true =>
      ({ s with duty := s.duty.setUnit i { u with feedback := true, state := .running, timer := none } } : State).propagate
        false
    | .running, false => s1.handCause i .runLoss
    | _, _ => s1
  else s1).done

/-- START_TIME_EXPIRY (R89): it acts on a STARTING unit whose timer has run out and whose feedback is INACTIVE. -/
def execStartTimeExpiry (i : Fin 4) (s : State) : Host.Outcome State Fault Refusal :=
  let u := s.duty.units[i]
  (if s.running && u.state == .starting && u.timer == some 0 && !u.feedback then s.handCause i .startFail else s).done

/-- COOLDOWN_EXPIRY (R91): it acts on a unit in COOLDOWN whose timer has run out. -/
def execCooldownExpiry (i : Fin 4) (s : State) : Host.Outcome State Fault Refusal :=
  let u := s.duty.units[i]
  (if s.running && u.state == .cooldown && u.timer == some 0 then
    if u.feedback then s.handCause i .stopFail
    else ({ s with duty := s.duty.setUnit i { u with state := .stopped, timer := none } } : State).propagate false
  else s).done

/-- STOP_DELAY_EXPIRY (R100): it acts once the stop delay timer has run out; one unit is stopped, and the timer starts
afresh where M still exceeds D. -/
def execStopDelayExpiry (s : State) : Host.Outcome State Fault Refusal :=
  (if s.running && s.duty.stopDelay == some 0 then
    let d : Duty := { s.duty with stopDelay := none }
    let d1 :=
      match d.surplusUnit s.dutyEnv with
      | some i => d.setUnit i ((d.units[i]).stop s.params.duty.tCool)
      | none => d
    ({ s with duty := d1 } : State).propagate false
  else s).done

end Sys2Proof.Machine
end

