-- ==== Sys2Proof/Machine/DryerCmds.lean ====
section
/-! DEFINITION. The commands of the dryer controller (chapter 6). -/

namespace Sys2Proof.Machine

/-- The train of a tower: towers 2t and 2t + 1 belong to train t (R108). -/
def towerTrain (i : Fin 4) : Fin 2 := ⟨i.val / 2, by omega⟩

/-- The place of a tower in its train (R108). -/
def towerPlace (i : Fin 4) : Fin 2 := ⟨i.val % 2, by omega⟩

/-- A tower's record. -/
def State.tower (s : State) (i : Fin 4) : Tower := s.dryer.trains[towerTrain i].towers[towerPlace i]

/-- A tower replaced, and its train derived afresh (R109). -/
def State.putTower (i : Fin 4) (w : Tower) (s : State) : State :=
  s.onTrain (towerTrain i) fun e t => (t.setTower (towerPlace i) w).derive e

/-- What SET_TOWER answers, and the tower it leaves (R121): none where the tower is left as it is. -/
def setTowerTable (inService drying : Bool) (w : Tower) : AnswerCode × Option Tower :=
  if inService then
    match w.state with
    | .outOfService => (.ok, some { w with state := .loaded })
    | .ready | .adsorbing | .loaded | .heating | .cooling => (.ok, none)
  else
    match w.state with
    | .ready | .loaded => (.ok, some { w with state := .outOfService })
    | .adsorbing =>
      if drying then (.refusedState, none) else (.ok, some { w with state := .outOfService, pending := false })
    | .heating | .cooling => (.refusedState, none)
    | .outOfService => (.ok, none)

/-- SET_TOWER (R121). -/
def actSetTower : Act := fun args s =>
  match towerArgs args with
  | none => refuse .refusedRange s
  | some (i, inService) =>
    match setTowerTable inService s.dryer.trains[towerTrain i].state.isDrying (s.tower i) with
    | (code, some w) => ((s.putTower i w).propagate false, some (code, []))
    | (code, none) => refuse code s

/-- SET_TOWER (R121). -/
def execSetTower (r : Request) (s : State) : Host.Outcome State Fault Refusal := request .setTower r actSetTower s

/-- SET_TRAIN (R122): each change acts as its line gives. R122 sets no order among the changes of one request; in service
before limits and dew point point before capacity is the model's choice (notes/assumptions/29.md). -/
def actSetTrain : Act := fun args s =>
  match trainArgs args with
  | none => refuse .refusedRange s
  | some (t, p) =>
    let old := s.params.trains[t]
    let s1 := s.storeOp { s.params with trains := s.params.trains.set t p }
    let s2 := if old.inService = p.inService then s1 else s1.deriveTrain t
    let point := s2.survey.points[p.dewPoint]
    let s3 :=
      if old.switchLimit = p.switchLimit ∧ old.specLimit = p.specLimit ∧ old.dewPoint = p.dewPoint then s2
      else s2.onTrain t fun e x => x.dewAction e point.quality point.value
    let s4 := if old.capacity = p.capacity then s3 else s3.onTrain t Train.evalSwitch
    accept (s4.propagate false)

/-- SET_TRAIN (R122). -/
def execSetTrain (r : Request) (s : State) : Host.Outcome State Fault Refusal := request .setTrain r actSetTrain s

/-- SET_DRYER (R123). -/
def actSetDryer : Act := fun args s =>
  match dryerArgs args with
  | none => refuse .refusedRange s
  | some p =>
    let s1 := s.storeOp { s.params with dryer := p }
    let s2 :=
      if s.params.dryer.maxAds = p.maxAds then s1
      else (s1.onTrain 0 Train.evalSwitch).onTrain 1 Train.evalSwitch
    accept (s2.propagate false)

/-- SET_DRYER (R123). -/
def execSetDryer (r : Request) (s : State) : Host.Outcome State Fault Refusal := request .setDryer r actSetDryer s

/-- HEATING_EXPIRY (R118): it acts on a HEATING tower whose timer has run out. -/
def execHeatingExpiry (i : Fin 4) (s : State) : Host.Outcome State Fault Refusal :=
  let w := s.tower i
  (if s.running && w.state == .heating && w.timer == some 0 then
    (s.putTower i { w with state := .cooling, loading := 0, timer := some s.params.dryer.tTcool }).propagate false
  else s).done

/-- COOLING_EXPIRY (R118): it acts on a COOLING tower whose timer has run out and is not stopped (R119); a pending switch of
the partner is made (R116). -/
def execCoolingExpiry (i : Fin 4) (s : State) : Host.Outcome State Fault Refusal :=
  let w := s.tower i
  (if s.running && w.state == .cooling && w.timer == some 0 && !s.dryer.trains[towerTrain i].state.isHeld then
    (s.onTrain (towerTrain i) fun e t =>
      ((t.setTower (towerPlace i) { w with state := .ready, timer := none }).pendingSwitch e).derive e).propagate false
  else s).done

end Sys2Proof.Machine
end

