-- ==== Sys2Proof/Machine/ProtCmds.lean ====
section
/-! DEFINITION. The commands of the protection matrix (chapter 7). -/

namespace Sys2Proof.Machine

/-- SET_CHANNEL (R129): the working state starts afresh, and an ENABLED channel evaluates its source. -/
def actSetChannel : Act := fun args s =>
  match channelArgs args with
  | none => refuse .refusedRange s
  | some (c, k) =>
    let s1 := s.storeOp { s.params with channels := s.params.channels.set c k }
    let s2 : State := { s1 with prot := s1.prot.setChannel c .atReset }
    accept (s2.evalChannel c)

/-- SET_CHANNEL (R129). -/
def execSetChannel (r : Request) (s : State) : Host.Outcome State Fault Refusal :=
  request .setChannel r actSetChannel s

/-- The channels whose live condition is ACTIVE, as a set of indices. -/
def Protection.liveSet (p : Protection) : BitVec 32 :=
  (List.finRange 32).foldl (fun acc c => if p.channels[c].live then acc ||| BitVec.ofNat 32 (2 ^ c.val) else acc) 0

/-- RESET_TRIP ADVISORY (R139): the indices of inactive channels leave the advisory set; the answer carries it. -/
def resetAdvisory (s : State) : State × Option (AnswerCode × List Byte) :=
  accept { s with prot := { s.prot with advisory := s.prot.advisory &&& s.prot.liveSet } }
    fun t => be 4 t.prot.advisory.toNat

/-- RESET_TRIP of a record (R138): a refusal carries the members that hold it. -/
def resetRecord (rec : RecordId) (s : State) : State × Option (AnswerCode × List Byte) :=
  if s.prot.latched rec then
    if s.holders rec = 0 then accept (s.clearRecord rec)
    else (s, some (.refusedState, be 5 (s.holders rec).toNat))
  else accept s

/-- RESET_TRIP (R138, R139). -/
def actResetTrip : Act := fun args s =>
  match resetArgs args with
  | none => refuse .refusedRange s
  | some .advisory => resetAdvisory s
  | some (.record rec) => resetRecord rec s

/-- RESET_TRIP (R138). -/
def execResetTrip (r : Request) (s : State) : Host.Outcome State Fault Refusal := request .resetTrip r actResetTrip s

/-- RESET_TRIP with target ADVISORY (R139): its one payload byte is 13 (R184). -/
def execResetTripAdvisory (p : Port) (tag : Byte) (s : State) : Host.Outcome State Fault Refusal :=
  request .resetTrip { port := p, tag := tag, payload := [13#8] } actResetTrip s

/-- PIN_LEVEL_CHANGE (R126): every channel that reads the pin evaluates its source. -/
def execPinLevelChange (p : Fin 16) (high : Bool) (s : State) : Host.Outcome State Fault Refusal :=
  let s1 : State := { s with prot := { s.prot with pins := s.prot.pins.set p high } }
  (if s.running then s1.evalChannels (·.readsPin p) else s1).done

/-- DEBOUNCE_EXPIRY (R128): it acts on an ENABLED channel whose debounce timer has run out; the channel becomes active. -/
def execDebounceExpiry (c : Fin 32) (s : State) : Host.Outcome State Fault Refusal :=
  (if s.running && s.params.channels[c].enabled && s.prot.channels[c].timer == some 0 then s.becomeActive c else s).done

end Sys2Proof.Machine
end

