-- ==== Sys2Proof/Machine/TimeCmds.lean ====
section
/-! DEFINITION. The commands of the flow computer and its time base (chapter 3). -/

namespace Sys2Proof.Machine

/-- SET_CV (R49). -/
def actSetCv : Act := fun args s =>
  match args with
  | [v] => if within 30000 45000 v then accept (s.storeOp { s.params with cv := v.toNat }) else refuse .refusedRange s
  | _ => refuse .refusedRange s

/-- SET_CV (R49). -/
def execSetCv (r : Request) (s : State) : Host.Outcome State Fault Refusal := request .setCv r actSetCv s

/-- The open interval cut by SET_CLOCK (R61, R62): closed as SHORT, unless its length is 0. -/
def State.cutInterval (w : Taking) (s : State) : State :=
  if s.time.openTicks = 0 then s else s.closeInterval .short s.time.lost w

/-- The clock becoming VALID seen by the movement and nomination controllers, in either order (R61, R148, R152). What a
change of mode recomputes before the placement is the model's choice (`Nominations.outside`, notes/assumptions/11.md). -/
def State.becomesValid (order : Order) (s : State) : State :=
  match order with
  | .movementFirst => (s.autoEvaluate.place).autoEvaluate
  | .movementLast => s.place.autoEvaluate

/-- The clock set to a value, VALID, with a new interval open at it (R61, R62). -/
def State.setClockTo (v : Nat) (s : State) : State :=
  ({ s with time := { s.time with clock := v, lost := false } } : State).openInterval true

/-- Whether a step is refused (R62): more than 300 s either way, or out of the current hour. -/
def stepRefused (clock v : Nat) : Bool := decide (300 < ((v : Int) - clock).natAbs) || decide (v / 3600 ≠ clock / 3600)

/-- SET_CLOCK (R61, R62). -/
def actSetClock (w : Taking) : Act := fun args s =>
  match args with
  | [a] =>
    let v := a.toNat
    if s.time.lost then
      accept ((((s.cutInterval w).setClockTo v).becomesValid w.order).propagate false)
    else if stepRefused s.time.clock v then refuse .refusedRange s
    else if v = s.time.clock then accept s
    else accept (((s.cutInterval w).setClockTo v).propagate false)
  | _ => refuse .refusedRange s

/-- SET_CLOCK (R61, R62). -/
def execSetClock (r : Request) (w : Taking) (s : State) : Host.Outcome State Fault Refusal :=
  request .setClock r (actSetClock w) s

/-- CLOCK_TICK (R57): one second; through a reset the clock alone runs on, and without the supply nothing does. -/
def execClockTick (s : State) : Host.Outcome State Fault Refusal :=
  (if s.running then s.tick
  else if s.power.supply then { s with time := s.time.tick }
  else s).done

/-- Whether the open interval closes by running at this tick: at a whole minute of a VALID clock that it has reached by a
tick (R58), and 60 ticks after the opening while the clock is LOST (R59). -/
def TimeBase.closeDue (t : TimeBase) : Bool :=
  t.openTicks != 0 && (if t.lost then t.openTicks == 60 else t.clock % 60 == 0)

/-- INTERVAL_CLOSE (R58, R59): the open interval closes at the tick at which it is due, and a new one opens at that tick.
An interval that opened at this very tick has no close by running: no record has length 0 (R61, R62). -/
def execIntervalClose (w : Taking) (s : State) : Host.Outcome State Fault Refusal :=
  (if s.running && s.time.closeDue then (s.closeInterval s.openKind s.time.lost w).openInterval false else s).done

/-- The nomination controller's part of the hour event (R147). -/
def State.rollHour (s : State) : State :=
  (s.confirm (fun _ => true) (s.nom.rollHour (s.time.clock / 3600) s.params.leadTime)).propagate false

/-- Whether an hour event is to be taken (R60): the clock is VALID, and the event that its last tick raised has not been
taken. A step of the clock taken first at that tick moves no hour event (R62). -/
def TimeBase.hourDue (t : TimeBase) : Bool := t.hourRaised && !t.lost

/-- The hour event raised no longer. -/
def State.endHourEvent (s : State) : State := { s with time := { s.time with hourRaised := false } }

/-- HOUR_EVENT (R3, R60, R147): the event raised at the tick onto a whole hour of a VALID clock is taken, once, and before
the next tick; R152 leaves the order of the two controllers open. -/
def execHourEvent (order : Order) (s : State) : Host.Outcome State Fault Refusal :=
  (if s.running && s.time.hourDue then
    match order with
    | .movementFirst => s.endHourEvent.autoEvaluate.rollHour
    | .movementLast => s.endHourEvent.rollHour.autoEvaluate
  else s).done

/-- PULSE_INPUT_CHANGE (R42, R43): during a reset the levels change and nothing is counted (R41). -/
def execPulseInputChange (i : Fin 8) (a b : Bool) (s : State) : Host.Outcome State Fault Refusal :=
  let c := s.flow.channels[i]
  let c1 := if s.running then c.change a b else { c with a := a, b := b }
  ({ s with flow := { s.flow with channels := s.flow.channels.set i c1 } } : State).done

end Sys2Proof.Machine
end

