-- ==== Sys2Proof/Machine/NomCmds.lean ====
section
/-! DEFINITION. The commands of the nomination controller (chapter 8). -/

namespace Sys2Proof.Machine

/-- The result of one rate of a NOMINATE, for hour `h` and rate `r` (R145). -/
def rateResult (n : Nominations) (st : SlotState) (h : Nat) (r : Int) : AnswerCode :=
  if h < n.current ∨ n.current + 23 < h then .refusedRange
  else if within (-100000000000) 100000000000 r = false then .refusedRange
  else if h ≤ n.firm then .late
  else if st = .inactive then .refusedState
  else .ok

/-- The table after a rate with result OK (R145): an entry stored, replaced, or removed by a rate of 0. -/
def Nominations.acceptRate (slot h : Nat) (r : Int) (n : Nominations) : Nominations :=
  { n with
    entries :=
      if r = 0 then n.entries.filter fun e => !(e.slot == slot && e.hour == h)
      else storeEntry { slot := slot, hour := h, requested := r, clamped := 0, confirmed := 0, state := .requested } n.entries
    counter := saturate Config.count32Max (n.counter + 1) }

/-- The rates of a NOMINATE in ascending hour: the table, and the result of each (R145). -/
def nominateRates (st : SlotState) (slot : Nat) : Nat → List Int → Nominations → Nominations × List AnswerCode
  | _, [], n => (n, [])
  | h, r :: rest, n =>
    let c := rateResult n st h r
    let x := nominateRates st slot (h + 1) rest (if c = .ok then n.acceptRate slot h r else n)
    (x.1, c :: x.2)

/-- The hours that received an accepted entry. -/
def acceptedHours (h : Nat) (codes : List AnswerCode) : List Nat :=
  ((codes.zip (List.range codes.length)).filter fun x => x.1 == .ok).map fun x => h + x.2

/-- NOMINATE (R145). -/
def actNominate : Act := fun args s =>
  match nominateArgs args with
  | none => refuse .refusedRange s
  | some (slot, h, rates) =>
    if s.time.lost then refuse .refusedState s
    else
      let x := nominateRates (slotOf s.book.slots slot).state slot h rates s.nom
      let hours := acceptedHours h x.2
      accept (s.confirm (fun k => hours.contains k) x.1) fun _ => x.2.map fun c => BitVec.ofNat 8 c.code

/-- NOMINATE (R145). -/
def execNominate (r : Request) (s : State) : Host.Outcome State Fault Refusal := request .nominate r actNominate s

/-- SET_RATCHET (R150). -/
def actSetRatchet : Act := fun args s =>
  match ratchetArgs args with
  | none => refuse .refusedRange s
  | some (withdrawal, t) =>
    accept (s.storeOp (if withdrawal then { s.params with ratchetWdr := t } else { s.params with ratchetInj := t })).recomputeAll

/-- SET_RATCHET (R150). -/
def execSetRatchet (r : Request) (s : State) : Host.Outcome State Fault Refusal :=
  request .setRatchet r actSetRatchet s

/-- SET_LEAD_TIME (R144). -/
def actSetLeadTime : Act := fun args s =>
  match args with
  | [v] =>
    if within 1 6 v then
      let s1 := s.storeOp { s.params with leadTime := v.toNat }
      accept (if s.time.lost then s1
        else { s1 with nom := ({ s1.nom with firm := max s1.nom.firm (s1.nom.current + v.toNat) }).align })
    else refuse .refusedRange s
  | _ => refuse .refusedRange s

/-- SET_LEAD_TIME (R144). -/
def execSetLeadTime (r : Request) (s : State) : Host.Outcome State Fault Refusal :=
  request .setLeadTime r actSetLeadTime s

/-- RESET_ENTRY_COUNTER (R146): the answer carries the value the counter held. -/
def actResetEntryCounter : Act := fun _ s =>
  accept { s with nom := { s.nom with counter := 0 } } fun _ => be 4 s.nom.counter

/-- RESET_ENTRY_COUNTER (R146). -/
def execResetEntryCounter (r : Request) (s : State) : Host.Outcome State Fault Refusal :=
  request .resetEntryCounter r actResetEntryCounter s

end Sys2Proof.Machine
end

