-- ==== Sys2Proof/Machine/BookCmds.lean ====
section
/-! DEFINITION. The commands of the account book (chapter 9). -/

namespace Sys2Proof.Machine

/-- The number of present entries of an opening set (R162). -/
def stagedCount (v : Vector (Option Staged) 32) : Nat := v.toList.countP Option.isSome

/-- STAGE_OPENING (R162). -/
def actStageOpening : Act := fun args s =>
  match stageArgs args with
  | none => refuse .refusedRange s
  | some (i, e) =>
    accept { s with book := { s.book with opening := s.book.opening.set i (some e) } }
      fun t => be 4 (stagedCount t.book.opening)

/-- STAGE_OPENING (R162). -/
def execStageOpening (r : Request) (s : State) : Host.Outcome State Fault Refusal :=
  request .stageOpening r actStageOpening s

/-- The first shipper slot, in ascending order, whose present entry satisfies a condition (R163). -/
def firstSlot (v : Vector (Option Staged) 32) (bad : Staged → Bool) : Option Nat :=
  ((List.finRange 32).find? fun i => (match v[i] with | some e => bad e | none => false)).map fun i => i.val + 1

/-- What a slot becomes by OPEN_BOOK (R164, steps 1 to 3). -/
def openedSlot (v : Vector (Option Staged) 32) (i : Fin 33) : Slot :=
  if i = 0 then Slot.first 0
  else match v.toList.getD (i.val - 1) none with
    | some e => { Slot.first i with state := e.state, space := e.space, injRight := e.injRight, wdrRight := e.wdrRight,
                                    inventory := e.inventory }
    | none => Slot.first i

/-- The sum of the opening inventories (R164, step 4). -/
def openingSum (v : Vector (Option Staged) 32) : Int :=
  (v.toList.map fun x => match x with | some e => (e.inventory : Int) | none => 0).sum

/-- The book after an accepted OPEN_BOOK with start hour `g` (R164). -/
def Book.openWith (g clock : Nat) (b : Book) : Book :=
  { slots := Vector.ofFn fun i => openedSlot b.opening i
    openingTotal := openingSum b.opening
    startHour := g
    openDay := some (gasDay g clock)
    totals := .zero
    dayRecords := []
    lastSeq := b.lastSeq
    opening := Vector.replicate 32 none }

/-- The nomination table cleared (R157); with no entry left N is 0 (R155). -/
def Nominations.clearTable (lead : Nat) (n : Nominations) : Nominations :=
  { n with entries := [], summaries := blankWindow n.current, previous := none, firm := n.current + lead,
           net := 0 }

/-- OPEN_BOOK (R163, R164). -/
def actOpenBook : Act := fun args s =>
  match args with
  | [g, n] =>
    if within 0 23 g = false then refuse .refusedRange s
    else if s.time.lost then refuse .refusedState s
    else if s.move.mode ≠ .hold then refuse .refusedState s
    else if n ≠ stagedCount s.book.opening then refuse .refusedState s
    else match firstSlot s.book.opening fun e => decide (e.space < e.inventory) with
      | some i => (s, some (.refusedRange, be 1 i))
      | none =>
        match firstSlot s.book.opening fun e => e.state == .inactive && decide (e.inventory ≠ 0) with
        | some i => (s, some (.refusedRange, be 1 i))
        | none =>
          let s1 : State := { s with book := s.book.openWith g.toNat s.time.clock }
          accept ((s1.confirm (fun _ => true) (s1.nom.clearTable s1.params.leadTime)).propagate false)
            fun t => beInt 8 t.book.openingTotal
  | _ => refuse .refusedRange s

/-- OPEN_BOOK (R163, R164). -/
def execOpenBook (r : Request) (s : State) : Host.Outcome State Fault Refusal := request .openBook r actOpenBook s

/-- The slot number of a shipper's place 0–31. -/
def shipperSlot (i : Fin 32) : Fin 33 := i.succ

/-- A book with one slot replaced. -/
def Book.setSlot (i : Fin 33) (v : Slot) (b : Book) : Book := { b with slots := b.slots.set i v }

/-- The entries of a shipper removed from the nomination table (R157). -/
def Nominations.dropShipper (slot : Nat) (n : Nominations) : Nominations :=
  { n with entries := n.entries.filter fun e => e.slot != slot }

/-- SET_SHIPPER (R157, R165). -/
def actSetShipper : Act := fun args s =>
  match shipperArgs args with
  | none => refuse .refusedRange s
  | some a =>
    let i := shipperSlot a.place
    let sl := s.book.slots[i]
    if (a.space : Int) < sl.inventory then refuse .refusedRange s
    else if a.state = .inactive ∧ sl.state ≠ .inactive ∧ sl.inventory ≠ 0 then refuse .refusedState s
    else
      let s1 : State :=
        { s with book := s.book.setSlot i { sl with state := a.state, space := a.space, injRight := a.injRight,
                                                    wdrRight := a.wdrRight } }
      let table := if a.state = .inactive then s1.nom.dropShipper i.val else s1.nom
      accept ((s1.confirm (fun _ => true) table).propagate false)

/-- SET_SHIPPER (R165). -/
def execSetShipper (r : Request) (s : State) : Host.Outcome State Fault Refusal :=
  request .setShipper r actSetShipper s

/-- Whether a slot is a shipper slot that is INACTIVE (R166). -/
def inactiveShipper (slots : Vector Slot 33) (i : Fin 33) : Bool := i != 0 && slots[i].state == .inactive

/-- The book after an accepted TRANSFER of `q` from `a` to `b` (R166). -/
def Book.transfer (a b : Fin 33) (q : Nat) (k : Book) : Book :=
  let x := k.slots[a]
  let k1 := k.setSlot a { x with inventory := i64 (x.inventory - q),
                                 day := { x.day with transfersOut := u63 (x.day.transfersOut + q) } }
  let y := k1.slots[b]
  k1.setSlot b { y with inventory := i64 (y.inventory + q), day := { y.day with transfersIn := u63 (y.day.transfersIn + q) } }

/-- TRANSFER (R166). The answer carries both new inventories; slot a's before slot b's, as the rule names them, is a
deduction (notes/assumptions/33.md). -/
def actTransfer : Act := fun args s =>
  match transferArgs args with
  | none => refuse .refusedRange s
  | some (a, b, q) =>
    let slots := s.book.slots
    if inactiveShipper slots a || inactiveShipper slots b then refuse .refusedState s
    else if a ≠ 0 ∧ slots[a].inventory < q then refuse .refusedRange s
    else if b ≠ 0 ∧ (slots[b].space : Int) < slots[b].inventory + q then refuse .refusedRange s
    else
      accept { s with book := s.book.transfer a b q }
        fun t => beInt 8 t.book.slots[a].inventory ++ beInt 8 t.book.slots[b].inventory

/-- TRANSFER (R166). -/
def execTransfer (r : Request) (s : State) : Host.Outcome State Fault Refusal := request .transfer r actTransfer s

end Sys2Proof.Machine
end

