-- ==== Sys2Proof/Machine/StoreCmds.lean ====
section
/-! DEFINITION. The commands of the parameter store (chapter 11): metrology writes, the change list and the seal. -/

namespace Sys2Proof.Machine

/-! ### Metrology parameters (R46, R47) -/

/-- The identifier of a parameter (Table 11-1). -/
def MetParam.id : MetParam → Nat
  | .kp _ => 0
  | .pPoint _ => 1
  | .tPoint _ => 2
  | .pFallback _ => 3
  | .tFallback _ => 4
  | .pb => 5
  | .tb => 6
  | .phaseTol => 7
  | .singleMin => 8
  | .zPressure k => 9 + k.val
  | .zRatio k => 17 + k.val

/-- The channel of a per-channel parameter. -/
def MetParam.channel : MetParam → Option (Fin 8)
  | .kp c | .pPoint c | .tPoint c | .pFallback c | .tFallback c => some c
  | .pb | .tb | .phaseTol | .singleMin | .zPressure _ | .zRatio _ => none

/-- A parameter's value in force. -/
def MetParams.get (m : MetParams) : MetParam → Int
  | .kp c => m.channels[c].kp
  | .pPoint c => m.channels[c].pPoint.val
  | .tPoint c => m.channels[c].tPoint.val
  | .pFallback c => m.channels[c].pFallback
  | .tFallback c => m.channels[c].tFallback
  | .pb => m.pb
  | .tb => m.tb
  | .phaseTol => m.phaseTol
  | .singleMin => m.singleMin
  | .zPressure k => m.z[k].1
  | .zRatio k => m.z[k].2

/-- One channel's parameters replaced. -/
def MetParams.setChannel (m : MetParams) (c : Fin 8) (v : ChannelMetrology) : MetParams :=
  { m with channels := m.channels.set c v }

/-- Whether a Z table pressure keeps the table strictly ascending (R47). -/
def zOrder (m : MetParams) (k : Fin 8) (v : Int) : Bool :=
  (List.finRange 8).all fun j =>
    (!decide (j.val + 1 = k.val) || decide (m.z[j].1 < v)) && (!decide (j.val = k.val + 1) || decide (v < m.z[j].1))

/-- A parameter written (R46): none where the value lies outside its range or breaks the order of the Z table. -/
def MetParams.write (m : MetParams) (p : MetParam) (v : Int) : Option MetParams :=
  match p with
  | .kp c => if within 1000 9999999 v then some (m.setChannel c { m.channels[c] with kp := v.toNat }) else none
  | .pPoint c => (fin? 48 v).map fun x => m.setChannel c { m.channels[c] with pPoint := x }
  | .tPoint c => (fin? 48 v).map fun x => m.setChannel c { m.channels[c] with tPoint := x }
  | .pFallback c => if within 50000 30000000 v then some (m.setChannel c { m.channels[c] with pFallback := v }) else none
  | .tFallback c => if within 23315 37315 v then some (m.setChannel c { m.channels[c] with tFallback := v }) else none
  | .pb => if within 90000 110000 v then some { m with pb := v.toNat } else none
  | .tb => if within 27315 29315 v then some { m with tb := v.toNat } else none
  | .phaseTol => if within 0 20 v then some { m with phaseTol := v.toNat } else none
  | .singleMin => if within 1 255 v then some { m with singleMin := v.toNat } else none
  | .zPressure k =>
    if within 50000 30000000 v && zOrder m k v then some { m with z := m.z.set k (v, m.z[k].2) } else none
  | .zRatio k => if within 700000 1100000 v then some { m with z := m.z.set k (m.z[k].1, v) } else none

/-! ### Recovery (R206) -/

/-- The marks after a write of `p` while NOT_CALIBRATED (R206): points and fallbacks set none. -/
def Metrology.mark (p : MetParam) (m : Metrology) : Metrology :=
  match p with
  | .kp c => { m with kMarks := m.kMarks ||| BitVec.ofNat 8 (2 ^ c.val) }
  | .pPoint _ | .tPoint _ | .pFallback _ | .tFallback _ => m
  | .pb | .tb | .phaseTol | .singleMin | .zPressure _ | .zRatio _ =>
    { m with siteMarks := m.siteMarks ||| BitVec.ofNat 20 (2 ^ (p.id - 5)) }

/-- The channels whose marks are complete calibrated; with all eight, the status becomes VALID and the marks are
discarded (R206). -/
def Metrology.settle (m : Metrology) : Metrology :=
  let calibrated := if m.siteMarks = BitVec.allOnes 20 then m.calibrated ||| m.kMarks else m.calibrated
  if calibrated = BitVec.allOnes 8 then { m with valid := true, kMarks := 0, siteMarks := 0, calibrated := calibrated }
  else { m with calibrated := calibrated }

/-- The metrology image after an accepted write of `p` that made the parameters `q` (R206). -/
def Metrology.after (p : MetParam) (q : MetParams) (m : Metrology) : Metrology :=
  let m1 : Metrology := { m with params := q }
  if m.valid then m1 else (m1.mark p).settle

/-- The pulse channels after a write of `p` (R48): a K-factor rescales its channel's volume residues. -/
def Flow.rewrite (p : MetParam) (old new : MetParams) (f : Flow) : Flow :=
  match p with
  | .kp c =>
    { f with channels := f.channels.set c ((f.channels[c]).rescale old.channels[c].kp new.channels[c].kp) }
  | .pPoint _ | .tPoint _ | .pFallback _ | .tFallback _ | .pb | .tb | .phaseTol | .singleMin | .zPressure _
  | .zRatio _ => f

/-- An accepted SET_METROLOGY (R46, R48, R204, R206). -/
def State.writeMetrology (p : MetParam) (q : MetParams) (s : State) : State :=
  let entry : ChangeEntry :=
    { clock := s.time.clock, lost := s.time.lost, param := p.id, channel := p.channel, before := s.metro.params.get p,
      after := q.get p }
  let m := s.metro.after p q
  let list := s.store.changeList ++ [entry]
  { s with
    metro := m
    flow := s.flow.rewrite p s.metro.params q
    store := { s.store with metImage := some (metImage m), changeList := list }
    ports := s.ports.raiseMet .listNearlyFull (decide (Config.changeListNear ≤ list.length)) }

/-- SET_METROLOGY (R46, R203). -/
def actSetMetrology : Act := fun args s =>
  match args with
  | [id, channel, v] =>
    if !s.store.sealOpen then refuse .sealed s
    else if Config.changeListSize ≤ s.store.changeList.length then refuse .listFull s
    else match metParam id channel with
      | none => refuse .refusedRange s
      | some p =>
        match s.metro.params.write p v with
        | none => refuse .refusedRange s
        | some q => accept (s.writeMetrology p q)
  | _ => refuse .refusedRange s

/-- SET_METROLOGY (R46). -/
def execSetMetrology (r : Request) (s : State) : Host.Outcome State Fault Refusal :=
  request .setMetrology r actSetMetrology s

/-! ### The change list and the seal (R203, R205) -/

/-- READ_METROLOGY_LIST (R205). -/
def actReadMetrologyList : Act := fun _ s => accept s changeListContent

/-- READ_METROLOGY_LIST (R205). -/
def execReadMetrologyList (r : Request) (s : State) : Host.Outcome State Fault Refusal :=
  request .readMetrologyList r actReadMetrologyList s

/-- CLEAR_METROLOGY_LIST (R205): the answer carries the number of entries the list held. -/
def actClearMetrologyList : Act := fun _ s =>
  if s.store.sealOpen then
    accept { s with store := { s.store with changeList := [] } } fun _ => be 4 s.store.changeList.length
  else refuse .sealed s

/-- CLEAR_METROLOGY_LIST (R205). -/
def execClearMetrologyList (r : Request) (s : State) : Host.Outcome State Fault Refusal :=
  request .clearMetrologyList r actClearMetrologyList s

/-- SEAL_INPUT_CHANGE (R203): it raises no cause. -/
def execSealInputChange (isOpen : Bool) (s : State) : Host.Outcome State Fault Refusal :=
  ({ s with store := { s.store with sealOpen := isOpen } } : State).done

end Sys2Proof.Machine
end

