-- ==== Sys2Proof/Machine/PowerCmds.lean ====
section
/-! DEFINITION. The commands of resets and start-up (R188, R207, R208). -/

namespace Sys2Proof.Machine

/-- RESTART (R188): answered OK; its reset begins when that answer has been sent. -/
def actRestart : Act := fun _ s => accept { s with power := { s.power with restart := .answering } }

/-- RESTART (R188). -/
def execRestart (r : Request) (s : State) : Host.Outcome State Fault Refusal := request .restart r actRestart s

/-- RESTART_RESET (R188, R207): it acts while an answered RESTART stands; start-up follows at once. -/
def execRestartReset (s : State) : Host.Outcome State Fault Refusal :=
  (if s.running && s.power.restart != .none then (s.beginReset .restart).startUp else s).done

/-- POWER_FAIL (R207): the supply is absent, and a power-on reset begins. -/
def execPowerFail (s : State) : Host.Outcome State Fault Refusal :=
  let s1 := s.beginReset .powerOn
  ({ s1 with power := { s1.power with supply := false } } : State).done

/-- The clock that a power-on finds (R57): the backup supply's value and VALID, or 0 and LOST. -/
def TimeBase.restore (backup : Option (BitVec 32)) (t : TimeBase) : TimeBase :=
  match backup with
  | some v => { t with clock := v.toNat, lost := false }
  | none => { t with clock := 0, lost := true }

/-- POWER_ON (R57, R207): it acts while the supply is absent; start-up begins unless the reset input is asserted. -/
def execPowerOn (backup : Option (BitVec 32)) (s : State) : Host.Outcome State Fault Refusal :=
  (if s.power.supply then s
  else
    let s1 : State := { s with power := { s.power with supply := true }, time := s.time.restore backup }
    let s2 := s1.beginReset .powerOn
    if s2.power.resetInput then s2 else s2.startUp).done

/-- RESET_INPUT_ASSERT (R207): a reset begins; without the supply the power-on reset goes on. -/
def execResetInputAssert (s : State) : Host.Outcome State Fault Refusal :=
  (if s.power.resetInput then s
  else
    let s1 : State := { s with power := { s.power with resetInput := true } }
    if s.power.supply then s1.beginReset .resetInput else s1).done

/-- RESET_INPUT_RELEASE (R207): start-up begins, where the supply is there. -/
def execResetInputRelease (s : State) : Host.Outcome State Fault Refusal :=
  (if s.power.resetInput then
    let s1 : State := { s with power := { s.power with resetInput := false } }
    if s.power.supply then s1.startUp else s1
  else s).done

/-- START_UP_COMPLETE (R208, step 3): it acts while a start-up is under way. -/
def execStartUpComplete (order : Order) (s : State) : Host.Outcome State Fault Refusal :=
  (if s.power.phase = .startingUp then s.complete order else s).done

end Sys2Proof.Machine
end

