-- ==== Sys2Proof/Machine/Dispatch.lean ====
section
/-! DEFINITION. The meaning of every command on everything but the queue: one arm per constructor of `Instr`. -/

namespace Sys2Proof.Machine

/-- The effect of a command (spec/opcode_table.json). -/
def exec (i : Instr) (s : State) : Host.Outcome State Fault Refusal :=
  match i with
  | .readStatus r => Sys2Proof.Machine.execReadStatus r s
  | .readPoints r => Sys2Proof.Machine.execReadPoints r s
  | .readIntervals r => Sys2Proof.Machine.execReadIntervals r s
  | .readAccounts r => Sys2Proof.Machine.execReadAccounts r s
  | .readDayRecords r => Sys2Proof.Machine.execReadDayRecords r s
  | .readNominations r => Sys2Proof.Machine.execReadNominations r s
  | .readParameters r => Sys2Proof.Machine.execReadParameters r s
  | .ackCauses r => Sys2Proof.Machine.execAckCauses r s
  | .setMask r => Sys2Proof.Machine.execSetMask r s
  | .remoteRead r => Sys2Proof.Machine.execRemoteRead r s
  | .remoteWrite r => Sys2Proof.Machine.execRemoteWrite r s
  | .writeStaging r => Sys2Proof.Machine.execWriteStaging r s
  | .readStaging r => Sys2Proof.Machine.execReadStaging r s
  | .setAnswerMode r => Sys2Proof.Machine.execSetAnswerMode r s
  | .fetchRemote r => Sys2Proof.Machine.execFetchRemote r s
  | .setSiteControl r => Sys2Proof.Machine.execSetSiteControl r s
  | .setSiteMode r => Sys2Proof.Machine.execSetSiteMode r s
  | .setChangeoverTime r => Sys2Proof.Machine.execSetChangeoverTime r s
  | .setCavern r => Sys2Proof.Machine.execSetCavern r s
  | .setPipeline r => Sys2Proof.Machine.execSetPipeline r s
  | .setCavernInventory r => Sys2Proof.Machine.execSetCavernInventory r s
  | .setPoint r => Sys2Proof.Machine.execSetPoint r s
  | .setSurveyPeriod r => Sys2Proof.Machine.execSetSurveyPeriod r s
  | .setLink r => Sys2Proof.Machine.execSetLink r s
  | .startUnit r => Sys2Proof.Machine.execStartUnit r s
  | .stopUnit r => Sys2Proof.Machine.execStopUnit r s
  | .setUnit r => Sys2Proof.Machine.execSetUnit r s
  | .setDuty r => Sys2Proof.Machine.execSetDuty r s
  | .setRunSeconds r => Sys2Proof.Machine.execSetRunSeconds r s
  | .setTower r => Sys2Proof.Machine.execSetTower r s
  | .setTrain r => Sys2Proof.Machine.execSetTrain r s
  | .setDryer r => Sys2Proof.Machine.execSetDryer r s
  | .setChannel r => Sys2Proof.Machine.execSetChannel r s
  | .resetTrip r => Sys2Proof.Machine.execResetTrip r s
  | .resetTripAdvisory port tag => Sys2Proof.Machine.execResetTripAdvisory port tag s
  | .setCv r => Sys2Proof.Machine.execSetCv r s
  | .setClock r taking => Sys2Proof.Machine.execSetClock r taking s
  | .setLineRate r => Sys2Proof.Machine.execSetLineRate r s
  | .restart r => Sys2Proof.Machine.execRestart r s
  | .stageOpening r => Sys2Proof.Machine.execStageOpening r s
  | .openBook r => Sys2Proof.Machine.execOpenBook r s
  | .setShipper r => Sys2Proof.Machine.execSetShipper r s
  | .transfer r => Sys2Proof.Machine.execTransfer r s
  | .nominate r => Sys2Proof.Machine.execNominate r s
  | .setRatchet r => Sys2Proof.Machine.execSetRatchet r s
  | .setLeadTime r => Sys2Proof.Machine.execSetLeadTime r s
  | .resetEntryCounter r => Sys2Proof.Machine.execResetEntryCounter r s
  | .setMetrology r => Sys2Proof.Machine.execSetMetrology r s
  | .readMetrologyList r => Sys2Proof.Machine.execReadMetrologyList r s
  | .clearMetrologyList r => Sys2Proof.Machine.execClearMetrologyList r s
  | .undefinedRequestKind r kind => Sys2Proof.Machine.execUndefinedRequestKind r kind s
  | .frameCrcError port => Sys2Proof.Machine.execFrameCrcError port s
  | .frameLengthInvalid port length => Sys2Proof.Machine.execFrameLengthInvalid port length s
  | .framePauseTimeout port => Sys2Proof.Machine.execFramePauseTimeout port s
  | .heldFrameDiscard port => Sys2Proof.Machine.execHeldFrameDiscard port s
  | .answerSent port => Sys2Proof.Machine.execAnswerSent port s
  | .restartReset => Sys2Proof.Machine.execRestartReset s
  | .powerFail => Sys2Proof.Machine.execPowerFail s
  | .powerOn backup => Sys2Proof.Machine.execPowerOn backup s
  | .resetInputAssert => Sys2Proof.Machine.execResetInputAssert s
  | .resetInputRelease => Sys2Proof.Machine.execResetInputRelease s
  | .startUpComplete order => Sys2Proof.Machine.execStartUpComplete order s
  | .clockTick => Sys2Proof.Machine.execClockTick s
  | .intervalClose taking => Sys2Proof.Machine.execIntervalClose taking s
  | .hourEvent order => Sys2Proof.Machine.execHourEvent order s
  | .changeoverExpiry => Sys2Proof.Machine.execChangeoverExpiry s
  | .passDue samples => Sys2Proof.Machine.execPassDue samples s
  | .pulseInputChange channel a b => Sys2Proof.Machine.execPulseInputChange channel a b s
  | .pinLevelChange pin high => Sys2Proof.Machine.execPinLevelChange pin high s
  | .feedbackChange unit active => Sys2Proof.Machine.execFeedbackChange unit active s
  | .sealInputChange isOpen => Sys2Proof.Machine.execSealInputChange isOpen s
  | .linkFrameReceived frame => Sys2Proof.Machine.execLinkFrameReceived frame s
  | .attemptTransmitted => Sys2Proof.Machine.execAttemptTransmitted s
  | .attemptTimeout => Sys2Proof.Machine.execAttemptTimeout s
  | .settleWaitExpiry => Sys2Proof.Machine.execSettleWaitExpiry s
  | .startTimeExpiry unit => Sys2Proof.Machine.execStartTimeExpiry unit s
  | .cooldownExpiry unit => Sys2Proof.Machine.execCooldownExpiry unit s
  | .stopDelayExpiry => Sys2Proof.Machine.execStopDelayExpiry s
  | .heatingExpiry tower => Sys2Proof.Machine.execHeatingExpiry tower s
  | .coolingExpiry tower => Sys2Proof.Machine.execCoolingExpiry tower s
  | .debounceExpiry channel => Sys2Proof.Machine.execDebounceExpiry channel s
  | .frameStart port => Sys2Proof.Machine.execFrameStart port s

end Sys2Proof.Machine
end

