-- ==== Sys2Proof/Machine/Step.lean ====
section
/-! DEFINITION. One step: the command at the front of the queue, or, with none waiting, one idle millisecond of elapsed
time (notes/assumptions/2.md and 28.md); and the placing of a command at the front of the queue. -/

namespace Sys2Proof.Machine

/-- One step. With the queue empty a running SC6 takes the completions that stand untaken; where there is none, it lets one
millisecond pass, up to the last one before the next whole second, which CLOCK_TICK brings. -/
def step (s : State) : Host.Outcome State Fault Refusal :=
  match s.pending with
  | c :: rest => exec c { s with pending := rest }
  | [] =>
    if s.running && !s.flow.untaken.isEmpty then s.takeUntaken.done
    else if s.running && s.time.elapsedMs % 1000 != 999 then .next (s.passMs 1)
    else .next s

/-- The state with the command that a table word spells put at the front of its queue; unchanged where it spells none. -/
def State.withFetchWord (s : State) (nbits w : Nat) : State :=
  match decodeTableWord nbits w with
  | some c => { s with pending := c :: s.pending }
  | none => s

end Sys2Proof.Machine
end

