-- ==== Sys2Proof/WellFormed.lean ====
section
/-! DEFINITION. Which terms of `Instr` are commands that can occur: the payload a frame can bring (R183), the kind and
length bytes that their rows name (R185, R186), and the frames of the field link (R68). -/

namespace Sys2Proof

/-- A payload a frame can bring: at most 240 bytes (Table 10-1). -/
def Request.ok (r : Request) : Bool := decide (r.payload.length ≤ 240)

/-- A frame that the field link can bring: a unit 1–6, a device 0–7, registers within 0–31, at most seven register
values (R68). -/
def LinkFrame.ok (f : LinkFrame) : Bool :=
  decide (1 ≤ f.unit) && decide (f.unit ≤ 6) && decide (f.device < 8) && decide (f.first < 32) &&
    decide (f.first + f.count ≤ 32) && decide (f.count ≤ 7) &&
    (match f.reply with
     | .data regs => decide (regs.length ≤ 7)
     | .done | .rejected | .status => true)

/-- Whether a command is well formed. -/
def Instr.wf : Instr → Bool
  | .readStatus r | .readPoints r | .readIntervals r | .readAccounts r | .readDayRecords r | .readNominations r
  | .readParameters r | .ackCauses r | .setMask r | .remoteRead r | .remoteWrite r | .writeStaging r | .readStaging r
  | .setAnswerMode r | .fetchRemote r | .setSiteControl r | .setSiteMode r | .setChangeoverTime r | .setCavern r
  | .setPipeline r | .setCavernInventory r | .setPoint r | .setSurveyPeriod r | .setLink r | .startUnit r | .stopUnit r
  | .setUnit r | .setDuty r | .setRunSeconds r | .setTower r | .setTrain r | .setDryer r | .setChannel r | .setCv r
  | .setLineRate r | .restart r | .stageOpening r | .openBook r | .setShipper r | .transfer r | .nominate r
  | .setRatchet r | .setLeadTime r | .resetEntryCounter r | .setMetrology r | .readMetrologyList r
  | .clearMetrologyList r => r.ok
  | .setClock r _ => r.ok
  | .resetTrip r => r.ok && r.payload != [13#8]
  | .resetTripAdvisory _ _ => true
  | .undefinedRequestKind r kind => r.ok && (Machine.kindOfCode kind.toNat).isNone
  | .frameLengthInvalid _ length => decide (length.toNat < 2) || decide (242 < length.toNat)
  | .linkFrameReceived f => f.ok
  | .frameCrcError _ | .framePauseTimeout _ | .heldFrameDiscard _ | .answerSent _ | .restartReset | .powerFail
  | .powerOn _ | .resetInputAssert | .resetInputRelease | .startUpComplete _ | .clockTick | .intervalClose _
  | .hourEvent _ | .changeoverExpiry | .passDue _ | .pulseInputChange _ _ _ | .pinLevelChange _ _
  | .feedbackChange _ _ | .sealInputChange _ | .attemptTransmitted | .attemptTimeout | .settleWaitExpiry
  | .startTimeExpiry _ | .cooldownExpiry _ | .stopDelayExpiry | .heatingExpiry _ | .coolingExpiry _
  | .debounceExpiry _ | .frameStart _ => true

end Sys2Proof
end

