-- ==== Sys2Proof/Safety.lean ====
section
/-! DEFINITION. What the statements about the SC6 speak of: when a port takes a request and what taking it leaves at the
port, and the invariants the manual gives the machine, block by block. -/

namespace Sys2Proof.Machine

/-! ### Taking a request (R185, R186) -/

/-- A port can take a request: start-up is complete and the port is WAITING or COLLECTING (R185, R207). -/
def State.accepting (p : Port) (s : State) : Bool :=
  s.running && ((s.ports.get p).rx == .waiting || (s.ports.get p).rx == .collecting)

/-- A request reaches its owning block: its port can take it, may issue its kind, and its payload has a length the kind
allows and carries these arguments (R186, R190). -/
def State.takes (s : State) (k : ReqKind) (r : Request) (args : List Int) : Prop :=
  s.accepting r.port = true ∧ mayIssue r.port k = true ∧ arguments k r.payload = some args

/-- The state that the answer to a request of a kind byte leaves: the port sends it, and the output lines follow the
state (R186, R187, R192). `t` is the state as the request's event leaves it. -/
def answeredAs (r : Request) (kind : Byte) (c : AnswerCode) (content : List Byte) (t : State) : State :=
  (t.onPort r.port (·.send { tag := r.tag, kind := kind, code := c, content := content })).driveOutputs

/-- The state that the answer to a request of a kind leaves. -/
def answered (r : Request) (k : ReqKind) (c : AnswerCode) (content : List Byte) (t : State) : State :=
  answeredAs r (kindByte k) c content t

/-- The port of a request sends an answer of a code, with some content, to it (R187). -/
def State.answers (s : State) (r : Request) (k : ReqKind) (c : AnswerCode) (content : List Byte) : Prop :=
  (s.ports.get r.port).rx = .sending ∧
    (s.ports.get r.port).sending = some { tag := r.tag, kind := kindByte k, code := c, content := content }

/-! ### Access and lengths (R186, R189, R190) -/

/-- The rows of Table 10-3: the first kind value and the requests, in the order listed. -/
def tableRows : List (Nat × List ReqKind) :=
  [(0x01, [.readStatus, .readPoints, .readIntervals, .readAccounts, .readDayRecords, .readNominations,
      .readParameters]),
   (0x08, [.ackCauses, .setMask]),
   (0x10, [.remoteRead, .remoteWrite, .writeStaging, .readStaging, .setAnswerMode, .fetchRemote]),
   (0x20, [.setSiteControl, .setSiteMode, .setChangeoverTime, .setCavern, .setPipeline, .setCavernInventory]),
   (0x28, [.setPoint, .setSurveyPeriod, .setLink]),
   (0x30, [.startUnit, .stopUnit, .setUnit, .setDuty, .setRunSeconds]),
   (0x38, [.setTower, .setTrain, .setDryer]),
   (0x3C, [.setChannel, .resetTrip]),
   (0x40, [.setCv, .setClock, .setLineRate]),
   (0x4F, [.restart]),
   (0x50, [.stageOpening, .openBook, .setShipper, .transfer, .nominate, .setRatchet, .setLeadTime,
      .resetEntryCounter]),
   (0x60, [.setMetrology, .readMetrologyList, .clearMetrologyList])]

/-- The ports that Table 10-3 marks for each kind. -/
def ownPorts : ReqKind → List Port
  | .readStatus | .readPoints | .readIntervals | .readAccounts | .readDayRecords | .readNominations | .readParameters
  | .ackCauses | .setMask => [.ops, .com, .met]
  | .remoteRead | .remoteWrite | .writeStaging | .readStaging | .setAnswerMode | .fetchRemote => [.ops, .met]
  | .setSiteControl | .setSiteMode | .setChangeoverTime | .setCavern | .setPipeline | .setCavernInventory | .setPoint
  | .setSurveyPeriod | .setLink | .startUnit | .stopUnit | .setUnit | .setDuty | .setRunSeconds | .setTower | .setTrain
  | .setDryer | .setChannel | .resetTrip | .setCv | .setClock | .setLineRate | .restart => [.ops]
  | .stageOpening | .openBook | .setShipper | .transfer | .nominate | .setRatchet | .setLeadTime
  | .resetEntryCounter => [.com]
  | .setMetrology | .readMetrologyList | .clearMetrologyList => [.met]

/-- The payload lengths of Table 10-11; 0 for a kind it does not name. -/
def allowedLength (k : ReqKind) (n : Nat) : Bool :=
  match k with
  | .readIntervals | .readDayRecords | .remoteRead | .remoteWrite | .setChangeoverTime | .setSurveyPeriod | .setCv
  | .setClock => n == 4
  | .readParameters | .setAnswerMode | .setSiteControl | .setSiteMode | .stopUnit | .resetTrip | .setLeadTime => n == 1
  | .ackCauses | .setMask | .startUnit | .setTower | .openBook => n == 2
  | .writeStaging => [3, 5, 7, 9, 11, 13, 15].contains n
  | .setCavern => n == 31
  | .setPipeline | .setRunSeconds | .setLineRate => n == 5
  | .setCavernInventory => n == 9
  | .setPoint => n == 37
  | .setLink | .setDuty => n == 13
  | .setUnit | .setDryer => n == 12
  | .setTrain => n == 88
  | .setChannel => n == 16
  | .stageOpening => n == 34
  | .setShipper => n == 26
  | .transfer => n == 10
  | .nominate => [13, 21, 29, 37, 45, 53, 61, 69].contains n
  | .setRatchet => n == 33
  | .setMetrology => n == 6
  | .readStatus | .readPoints | .readAccounts | .readNominations | .readStaging | .fetchRemote | .restart
  | .resetEntryCounter | .readMetrologyList | .clearMetrologyList => n == 0

/-! ### What an event leaves alone -/

/-- A port controller that is as it was, but for causes raised. -/
def PortState.raisedOver (p q : PortState) : Prop :=
  q = { p with causes := q.causes } ∧ p.causes &&& q.causes = p.causes

/-- A port controller that has begun an answer and is otherwise as it was, but for causes raised. -/
def PortState.answeringOver (p q : PortState) : Prop :=
  q = { p with rx := .sending, frame := none, sending := q.sending, causes := q.causes } ∧
    p.causes &&& q.causes = p.causes

/-- The port controllers are as they were, but for causes raised and the answer that `who` has begun. -/
def Ports.after (who : Option Port) (p q : Ports) : Prop :=
  (∀ x ∈ [Port.ops, Port.com, Port.met],
    if who = some x then (p.get x).answeringOver (q.get x) else (p.get x).raisedOver (q.get x)) ∧
  q.opsRemote = p.opsRemote ∧ q.metRemote = p.metRemote

/-- What no change of the site's movement, equipment or protection reaches is as it was in `s`: supply and resets, the
time base, the survey, the link, the flow computer, the account book, the parameters and their images, the waiting
commands, and the ports but for causes raised and the answer that `who` has begun. -/
def State.sameElsewhere (who : Option Port) (s t : State) : Prop :=
  t.power = s.power ∧ t.time = s.time ∧ t.survey = s.survey ∧ t.link = s.link ∧ t.flow = s.flow ∧ t.book = s.book ∧
  t.params = s.params ∧ t.metro = s.metro ∧ t.store = s.store ∧ t.pending = s.pending ∧ s.ports.after who t.ports

/-- The meters and counts that no change of movement or protection moves are as they were: metered inventories, rings and
RESTRICTED; run seconds and feedback levels; loadings and the untreated volume; the table's hours, requested rates,
horizon, previous-hour copy and counter; the pins. -/
def State.sameMeters (s t : State) : Prop :=
  (∀ i : Fin 6, t.move.caverns[i].inventory = s.move.caverns[i].inventory ∧
    t.move.caverns[i].ring = s.move.caverns[i].ring ∧
    t.move.caverns[i].restricted = s.move.caverns[i].restricted) ∧
  (∀ i : Fin 4, t.duty.units[i].runSeconds = s.duty.units[i].runSeconds ∧
    t.duty.units[i].feedback = s.duty.units[i].feedback) ∧
  (∀ k : Fin 2, ∀ i : Fin 2, t.dryer.trains[k].towers[i].loading = s.dryer.trains[k].towers[i].loading) ∧
  t.dryer.untreated = s.dryer.untreated ∧
  t.nom.current = s.nom.current ∧ t.nom.firm = s.nom.firm ∧ t.nom.previous = s.nom.previous ∧
  t.nom.counter = s.nom.counter ∧
  t.nom.entries.map (fun e => (e.slot, e.hour, e.requested, e.state)) =
    s.nom.entries.map (fun e => (e.slot, e.hour, e.requested, e.state)) ∧
  t.nom.summaries.map (·.hour) = s.nom.summaries.map (·.hour) ∧
  t.prot.pins = s.prot.pins

/-- A change of the confirmed rate of an entry that is FIRM or CURRENT, and stands where it stood, has raised CURTAILMENT at
COM and OPS (R156). -/
def State.curtailmentRaised (s t : State) : Prop :=
  (∃ p ∈ s.nom.entries.zip t.nom.entries, p.2.state ≠ .requested ∧ p.1.confirmed ≠ p.2.confirmed) →
    t.ports.com.causes.getLsbD 5 = true ∧ t.ports.ops.causes.getLsbD 5 = true

/-- A change of site movement or protection has been carried through the blocks (R11, R136), with the comparison of R156, and
all else is as it was in `s`. -/
def State.settled (who : Option Port) (s t : State) : Prop :=
  s.sameElsewhere who t ∧ s.sameMeters t ∧ s.curtailmentRaised t

/-- A change has been carried through the blocks that derive from it alone (R14, R19, R94, R98 to R100, R141, R154):
caverns, units, capacity and confirmations; the site mode, the trains and the protection matrix are as they were too. -/
def State.rederived (who : Option Port) (s t : State) : Prop :=
  s.settled who t ∧ t.prot = s.prot ∧ t.dryer = s.dryer ∧ t.move.mode = s.move.mode ∧
  t.move.wanted = s.move.wanted ∧ t.move.changeover = s.move.changeover

/-! ### Tables of the manual, written out -/

/-- Table 1-1, line by line: the site mode and the changeover that a wanted mode leads to. -/
def table1_1 (tChange : Nat) (mode : SiteMode) (c : Option Changeover) (w : Wanted) : SiteMode × Option Changeover :=
  let toward (t : Target) : SiteMode × Option Changeover :=
    (.changeover, some { target := t, seconds := tChange })
  match mode, w with
  | .hold, .hold => (.hold, none)
  | .hold, .inject => (.inject, none)
  | .hold, .withdraw => (.withdraw, none)
  | .inject, .hold => (.hold, none)
  | .inject, .inject => (.inject, none)
  | .inject, .withdraw => toward .withdraw
  | .withdraw, .hold => (.hold, none)
  | .withdraw, .inject => toward .inject
  | .withdraw, .withdraw => (.withdraw, none)
  | .changeover, .hold => (.hold, none)
  | .changeover, .inject =>
    match c with
    | some { target := .inject, seconds := left } => (.changeover, some { target := .inject, seconds := left })
    | _ => toward .inject
  | .changeover, .withdraw =>
    match c with
    | some { target := .withdraw, seconds := left } => (.changeover, some { target := .withdraw, seconds := left })
    | _ => toward .withdraw
  | .shutdown, _ => (.shutdown, c)

/-- The wanted mode that an hour direction and a clock status give (R3). -/
def wantedBy (lost : Bool) (direction : Int) : Wanted :=
  match lost, direction with
  | false, 1 => .inject
  | false, -1 => .withdraw
  | _, _ => .hold

/-- The link after an accepted offer (R70, R71): the entry is started where the queue is empty and nothing holds the
link, and otherwise waits at the tail. -/
def linkAfterOffer (timeout : Nat) (e : Entry) (l : Link) : Link :=
  if l.flight = none ∧ l.settle = none then
    { l with started := l.started + 1,
             flight := some { entry := e, tag := BitVec.ofNat 8 (l.started + 1), retry := false, timeout := timeout,
                              timer := none } }
  else { l with queue := l.queue ++ [e] }

/-- What the blocks `who` have done with a completed record between `s` and `t`, taking it in an order (R64): the caverns
(R16 to R18), the dryer (R113), and the account book with the confirmed rates as its turn finds them (R167, R178); a
block that is not among them has done nothing. A gas day that the book closes raises DAY_CLOSED at COM (R180). -/
def State.takenBy (order : Order) (who : Readers) (x : IntervalRecord) (s t : State) : Prop :=
  (∀ i : Fin 6,
    let old := s.move.caverns[i]
    let new := t.move.caverns[i]
    let p := s.cavernPoint i
    let ring := old.ring.drop (old.ring.length - 59) ++ [p.value]
    (who.caverns = false → new.inventory = old.inventory ∧ new.ring = old.ring ∧ new.restricted = old.restricted) ∧
    (who.caverns = true →
      new.inventory = i64 (old.inventory + x.channels[(i.castAdd 2 : Fin 8)].energy) ∧
      (p.quality = .failed ∨ p.quality = .unknown → new.ring = [] ∧ new.restricted = false) ∧
      (p.quality = .good ∨ p.quality = .held →
        new.ring = ring ∧
        (ring.length < 60 → new.restricted = false) ∧
        (∀ oldest, 60 ≤ ring.length → ring.head? = some oldest →
          let d : Int := (p.value - oldest).natAbs
          new.restricted = (if s.params.caverns[i].maxRate < d then true
            else if 100 * d ≤ 80 * s.params.caverns[i].maxRate then false else old.restricted))))) ∧
  t.dryer = (if who.dryer then (s.dryerTakes x).dryer else s.dryer) ∧
  (let rates := (match order with | .movementFirst => t | .movementLast => s).ratesFor x
   t.book = (if who.book then (s.book.take rates x).1 else s.book) ∧
   t.ports.com.causes.getLsbD 6 = (s.ports.com.causes.getLsbD 6 || (who.book && (s.book.take rates x).2))) ∧
  (who.book = true → t.book.lastSeq = x.seq)

/-- R37 for the HIGH flag of a point at quality GOOD or HELD: the flag that an evaluation leaves. -/
def highAfter (c : PointConfig) (value : Int) (was : Bool) : Bool :=
  if c.alarmHigh < value then true else if value ≤ c.alarmHigh - c.hysteresis then false else was

/-- R37 for the LOW flag of a point at quality GOOD or HELD: the flag that an evaluation leaves. -/
def lowAfter (c : PointConfig) (value : Int) (was : Bool) : Bool :=
  if value < c.alarmLow then true else if c.alarmLow + c.hysteresis ≤ value then false else was

/-- R36: the quality that the limits give a published point of an age. -/
def qualityAt (c : PointConfig) (age : Nat) : Quality :=
  if age ≤ c.heldLimit then .good else if age ≤ c.failedLimit then .held else .failed

/-- A point at a whole second (R36, R37): one second older, its quality by its age, and its flags evaluated where the quality
has changed to GOOD or HELD; an UNKNOWN point stays as it is. -/
def PointState.aged (c : PointConfig) (p : PointState) : PointState :=
  let age := min 65535 (p.age + 1)
  let q := qualityAt c age
  if p.quality = .unknown then p
  else if q = p.quality ∨ q = .failed then { p with age := age, quality := q }
  else { p with age := age, quality := q, alarmHigh := highAfter c p.value p.alarmHigh
                alarmLow := lowAfter c p.value p.alarmLow }

/-- The READ transactions that a pass offers, each with its point, in ascending point index (R28). -/
def State.passReads (s : State) : List (Fin 48 × Entry) :=
  (List.finRange 48).filterMap fun p =>
    match s.params.points[p].source with
    | .remote u d r =>
      if s.params.points[p].enabled && s.survey.points[p].skip == 0 && s.params.link.enabled[u] then
        some (p, { kind := .read, unit := u, device := d, first := r, count := 1, values := [],
                   origin := .surveyRead p s.survey.points[p].tag })
      else none
    | .local _ => none

/-- The columns of R74: a unit's health record after a success, or after a failure. -/
def healthAfter (success : Bool) (h : UnitHealth) : UnitHealth :=
  match success, h.health, h.failures with
  | true, _, _ => { health := .up, failures := 0 }
  | false, .up, _ => { health := .degraded, failures := 1 }
  | false, .degraded, 1 => { health := .degraded, failures := 2 }
  | false, .degraded, _ => { health := .down, failures := 3 }
  | false, .down, _ => { health := .down, failures := 3 }

/-- The next pair of input levels in the forward order (R42). -/
def nextLevels : Bool × Bool → Bool × Bool
  | (false, false) => (true, false)
  | (true, false) => (true, true)
  | (true, true) => (false, true)
  | (false, true) => (false, false)

/-- Table of R128: a channel's working state after its source has been found at a level, with the debounce in force. -/
def channelAfter (debounce : Nat) (active : Bool) (c : ChannelState) : ChannelState :=
  if active = c.source then c
  else if active = false then { source := false, timer := none, live := false }
  else if debounce = 0 then { source := true, timer := none, live := true }
  else { source := true, timer := some debounce, live := false }

/-- Whether a channel reads a mirrored line of a wellhead unit, or the unit's health (R126, R127). -/
def ChannelConfig.namesUnit (u : Fin 6) (k : ChannelConfig) : Prop :=
  k.unit = u ∧ (k.form = .line ∨ k.form = .pinOrLine ∨ k.form = .pinAndLine)

/-- Whether a channel reads an alarm flag of a point (R126). -/
def ChannelConfig.namesPoint (p : Fin 48) (k : ChannelConfig) : Prop :=
  k.point = p ∧ (k.form = .pointHigh ∨ k.form = .pointLow)

/-- Whether the target set of a channel names a record (R131). -/
def namesRecord (targets : BitVec 12) : RecordId → Bool
  | .site => false
  | .unit u => targets.getLsbD u.val
  | .cavern i => targets.getLsbD (4 + i.val)
  | .train k => targets.getLsbD (10 + k.val)

/-- What an event at the sources of the channels `reads` does at the matrix: each of them evaluates its source afresh, by the
table of R128, every other stays as it was, and one that becomes active acts by its class (R131 to R133). -/
def State.channelsAct (reads : Fin 32 → Prop) (s t : State) : Prop :=
  ∀ c : Fin 32,
    let k := s.params.channels[c]
    let latchedBy (r : RecordId) : Prop :=
      t.prot.latched r = true ∧ (t.prot.record r).hasCause (.channel c) = true
    (reads c → t.prot.channels[c] = channelAfter k.debounce (t.sourceOf c) s.prot.channels[c]) ∧
    (¬reads c → t.prot.channels[c] = s.prot.channels[c]) ∧
    (s.prot.channels[c].live = false → t.prot.channels[c].live = true →
      (k.cls = .site → latchedBy .site) ∧ (k.cls = .equipment → ∀ r, namesRecord k.targets r = true → latchedBy r) ∧
      (k.cls = .advisory → t.prot.advisory.getLsbD c.val = true))

/-- Whether an alarm flag of a point has changed between two states. -/
def State.flagMoved (s t : State) (p : Fin 48) : Prop :=
  t.survey.points[p].alarmHigh ≠ s.survey.points[p].alarmHigh ∨ t.survey.points[p].alarmLow ≠ s.survey.points[p].alarmLow

/-- What an event that sets health and lines of the wellhead units `units`, and may change points' alarm flags, brings about
beside them: POINT_ALARM at OPS exactly where a flag changes (R38), and the evaluation of every ENABLED channel that reads one
of these units or such a flag, of no other (R126, R127). -/
def State.matrixFollows (units : Fin 6 → Prop) (s t : State) : Prop :=
  (t.ports.ops.causes.getLsbD 3 = true ↔ s.ports.ops.causes.getLsbD 3 = true ∨ ∃ p, s.flagMoved t p) ∧
  s.channelsAct (fun c =>
    let k := s.params.channels[c]
    k.enabled = true ∧ ((∃ u, units u ∧ k.namesUnit u) ∨ ∃ p, s.flagMoved t p ∧ k.namesPoint p)) t

/-- R119: a train put into TRIPPED or OUT_OF_SERVICE, a HEATING tower made LOADED with its timer discarded at the entry; a
passage between the two changes nothing on the towers. -/
def Train.heldAs (st : TrainState) (t : Train) : Train :=
  { t with
    state := st
    towers := Vector.ofFn fun i =>
      let w := t.towers[i]
      if t.state.isHeld = false ∧ w.state = .heating then { w with state := .loaded, timer := none } else w }

/-- R117, R120: what a train's return from TRIPPED or OUT_OF_SERVICE does at a tower that is COOLING, LOADED or
OUT_OF_SERVICE. -/
def Train.returns (d : DryerParams) (old new : Train) : Prop :=
  ∀ i : Fin 2,
    let w := old.towers[i]
    let other := old.towers[partner i]
    let waits : Prop := other.state = .heating ∨ other.state = .cooling ∨ (i = 1 ∧ other.state = .loaded)
    (w.state = .cooling → new.towers[i] = { w with timer := some d.tTcool }) ∧
    (w.state = .loaded → ¬waits → new.towers[i] = { w with state := .heating, timer := some d.tHeat }) ∧
    (w.state = .loaded → waits → new.towers[i] = w) ∧
    (w.state = .outOfService → new.towers[i] = w)

/-- What a change of site mode between `s` and `t` does at the trains, each derived afresh (R109), and, where it enters
CHANGEOVER, at the units, each of which takes a stop (R91, R101). -/
def State.modeFollows (s t : State) : Prop :=
  (t.move.mode = s.move.mode → t.dryer = s.dryer) ∧
  (t.move.mode ≠ s.move.mode → ∀ k : Fin 2, t.dryer.trains[k] = (s.dryer.trains[k]).derive (t.trainEnv k)) ∧
  (t.move.mode = .changeover → s.move.mode ≠ .changeover → ∀ u : Fin 4,
    let old := s.duty.units[u]
    let new := t.duty.units[u]
    (old.state = .starting ∨ old.state = .running → new.state = .cooldown ∧ new.timer = some s.params.duty.tCool) ∧
    (old.state ≠ .starting → old.state ≠ .running → new.state = old.state ∧ new.timer = old.timer) ∧
    new.startLog = old.startLog ∧ new.runSeconds = old.runSeconds)

/-- Whether a member of a record's cause set holds it (R137). -/
def State.holds (s : State) (r : RecordId) (c : TripCause) : Bool :=
  (s.prot.record r).hasCause c &&
    (match c, r with
     | .channel i, _ => s.prot.channels[i].live
     | .startFail, _ => false
     | .runLoss, .unit u => s.duty.units[u].feedback
     | .stopFail, .unit u => s.duty.units[u].feedback
     | .runLoss, _ => false
     | .stopFail, _ => false)

/-- The conversions of a run of intervals in one direction, each a count and its factor (R53, R54): the sums of V and E
and the residues at the end. -/
def convertRun (kp cv : Nat) : List (Nat × Nat) → Nat × Nat → (Nat × Nat) × (Nat × Nat)
  | [], res => ((0, 0), res)
  | (n, f) :: rest, res =>
    let c := convert kp cv f n res.1 res.2
    let x := convertRun kp cv rest (c.volRes, c.enRes)
    ((c.volume + x.1.1, c.energy + x.1.2), x.2)

/-- The state kept through every reset but for the clock (Table 11-3): the stored images and the change list, the account
book without its opening set, the nomination table, the log, metered inventories, run seconds, start logs, and the towers
with HEATING made LOADED. -/
def State.keptThrough (s t : State) : Prop :=
  t.store.opImage = s.store.opImage ∧ t.store.changeList = s.store.changeList ∧
  t.book = { s.book with opening := t.book.opening } ∧
  t.nom.entries = s.nom.entries ∧ t.nom.summaries = s.nom.summaries ∧ t.nom.firm = s.nom.firm ∧
  t.flow.log = s.flow.log ∧ t.flow.total = s.flow.total ∧
  (∀ i : Fin 6, t.move.caverns[i].inventory = s.move.caverns[i].inventory) ∧
  (∀ i : Fin 4, t.duty.units[i].runSeconds = s.duty.units[i].runSeconds ∧
    t.duty.units[i].startLog = s.duty.units[i].startLog) ∧
  (∀ k : Fin 2, ∀ i : Fin 2,
    t.dryer.trains[k].towers[i] = { s.dryer.trains[k].towers[i] with
      state := if s.dryer.trains[k].towers[i].state = .heating then .loaded else s.dryer.trains[k].towers[i].state
      timer := none })

/-- The volatile state of every block at its reset value, for the operating parameters `p` (Tables 1-5, 2-5, 3-6, 4-3,
5-6, 6-5, 7-5, 8-4 and 10-9), and every output inactive (R207). -/
def State.atResetValues (p : OpParams) (t : State) : Prop :=
  t.survey = .atReset ∧ t.link = .atReset p ∧ t.ports = .atReset p ∧ t.out = .inactive ∧ t.flow.untaken = [] ∧
  (∀ c : Fin 8, t.flow.channels[c] = .atReset t.flow.channels[c].a t.flow.channels[c].b) ∧
  t.move.mode = .hold ∧ t.move.wanted = .hold ∧ t.move.changeover = none ∧ t.move.boost = false ∧
  (∀ i : Fin 6, t.move.caverns[i] =
    { state := if p.caverns[i].enabled then .idle else .disabled, restricted := false, linkLost := true,
      pUnknown := true, inventory := t.move.caverns[i].inventory, ring := [] }) ∧
  t.duty.queue = [] ∧ t.duty.demand = 0 ∧ t.duty.stopDelay = none ∧
  (∀ i : Fin 4, t.duty.units[i].state = (if p.units[i].inService then .stopped else .outOfService) ∧
    t.duty.units[i].timer = none ∧ t.duty.units[i].inhibited = false) ∧
  (∀ k : Fin 2, t.dryer.trains[k].state = (if p.trains[k].inService then .standby else .outOfService) ∧
    t.dryer.trains[k].dewHigh = false) ∧
  t.dryer.untreated = 0 ∧
  (∀ c : Fin 32, t.prot.channels[c] = { source := false, timer := none, live := false }) ∧
  (∀ k : Fin 13, t.prot.records[k] = { latched := false, firstOut := none, causes := 0 }) ∧ t.prot.advisory = 0 ∧
  t.nom.injPot = 0 ∧ t.nom.wdrPot = 0 ∧ t.nom.injEff = 0 ∧ t.nom.wdrEff = 0 ∧ t.nom.net = 0 ∧ t.nom.counter = 0 ∧
  t.nom.previous = none ∧ (∀ i : Fin 32, t.book.opening[i] = none) ∧ t.power.restart = .none

/-- Until a start-up has completed, every volatile state is at its reset value for the parameters in force, no trip record
is latched among them (R207), and no tower is HEATING nor has a timer (R124). -/
def ResetInv (s : State) : Prop :=
  s.running = false → s.atResetValues s.params ∧
    ∀ k : Fin 2, ∀ i : Fin 2, s.dryer.trains[k].towers[i].state ≠ .heating ∧ s.dryer.trains[k].towers[i].timer = none

/-! ### Site mode and caverns (chapter 1) -/

/-- SHUTDOWN is the mode exactly while the site record is latched, and a changeover runs exactly in CHANGEOVER (R6, R7,
R9, R10). -/
def ModeInv (s : State) : Prop :=
  (s.prot.latched .site = true ↔ s.move.mode = .shutdown) ∧ (s.move.changeover.isSome = true ↔ s.move.mode = .changeover)

/-- The derived state of the caverns and the boost decision are those of R12, R13 and R19 while the SC6 runs. -/
def CavernInv (s : State) : Prop :=
  s.running = true →
    (∀ i : Fin 6,
      s.move.caverns[i].state = s.cavernState i ∧
      s.move.caverns[i].linkLost = (s.link.health[i].health == .down) ∧
      s.move.caverns[i].pUnknown =
        decide ((s.cavernPoint i).quality = .unknown ∨ (s.cavernPoint i).quality = .failed)) ∧
    s.move.boost = s.boostRequired

/-- The output lines are those of the state (R15, R86, R108, R135, R192, R207). -/
def OutputInv (s : State) : Prop := s.out = s.outputs

/-! ### Compressor units (chapter 5) -/

/-- The compressor duty controller: at most one unit STARTING (R97); at most one entry a unit, of the kind of its unit's
duty source, every queued unit STOPPED (R96); no entry and no unit STARTING or RUNNING in CHANGEOVER or SHUTDOWN (R101); a unit under a latched record TRIPPED or
OUT_OF_SERVICE, a TRIPPED unit under a latched record (R92); OUT_OF_SERVICE exactly by the parameter (R93). -/
def UnitInv (s : State) : Prop :=
  (∀ i j : Fin 4, s.duty.units[i].state = .starting → s.duty.units[j].state = .starting → i = j) ∧
  (s.duty.queue.map (·.unit)).Nodup ∧
  (∀ q ∈ s.duty.queue, s.duty.units[q.unit].state = .stopped ∧ q.kind = s.params.units[q.unit].source) ∧
  (s.move.mode.stopsUnits = true → s.duty.queue = [] ∧
    ∀ i : Fin 4, s.duty.units[i].state ≠ .starting ∧ s.duty.units[i].state ≠ .running) ∧
  (∀ i : Fin 4, (s.prot.latched .site || s.prot.latched (.unit i)) = true →
    s.duty.units[i].state = .tripped ∨ s.duty.units[i].state = .outOfService) ∧
  (∀ i : Fin 4, s.duty.units[i].state = .tripped → (s.prot.latched .site || s.prot.latched (.unit i)) = true) ∧
  (∀ i : Fin 4, s.duty.units[i].state = .outOfService ↔ s.params.units[i].inService = false)

/-! ### Gas drying (chapter 6) -/

/-- A tower that regenerates: HEATING or COOLING (R108). -/
def Tower.regenerating (w : Tower) : Bool := w.state == .heating || w.state == .cooling

/-- What R108 says of one train: never two ADSORBING towers, nor two that are HEATING or COOLING; one ADSORBING while it is
IN_SERVICE or OFF_SPEC; none HEATING while it is TRIPPED or OUT_OF_SERVICE. -/
def Train.sound (t : Train) : Prop :=
  ¬ (t.towers[0].state = .adsorbing ∧ t.towers[1].state = .adsorbing) ∧
  ¬ (t.towers[0].regenerating = true ∧ t.towers[1].regenerating = true) ∧
  (t.state.isDrying = true → t.has .adsorbing = true) ∧
  (t.state.isHeld = true → t.has .heating = false)

/-- Both trains sound (R108), and a train TRIPPED exactly while its own or the site record is latched (R109). -/
def TrainInv (s : State) : Prop :=
  ∀ t : Fin 2, (s.dryer.trains[t]).sound ∧
    (s.dryer.trains[t].state = .tripped ↔ (s.prot.latched .site || s.prot.latched (.train t)) = true)

/-! ### Wellhead link (chapter 4) -/

/-- The transactions waiting or in flight. -/
def Link.all (l : Link) : List Entry :=
  (match l.flight with | some f => [f.entry] | none => []) ++ l.queue

/-- Whether a transaction is a port's, in either answer mode. -/
def Entry.isOf (rp : RemotePort) (e : Entry) : Bool :=
  match e.origin with
  | .port q _ => q == rp
  | .surveyRead _ _ | .surveyPoll => false

/-- Whether a transaction is the survey's. -/
def Entry.isSurvey (e : Entry) : Bool :=
  match e.origin with
  | .port _ _ => false
  | .surveyRead _ _ | .surveyPoll => true

/-- The link controller: at most eight waiting (R70); no settle wait beside a transaction in flight, and nothing waiting
while neither runs (R71); at most one access of each port (R70); the health counts of R74; a DISABLED unit DOWN (R76). -/
def LinkInv (s : State) : Prop :=
  s.link.queue.length ≤ 8 ∧
  (s.link.flight.isSome = true → s.link.settle = none) ∧
  (s.link.flight = none → s.link.settle = none → s.link.queue = []) ∧
  (∀ rp : RemotePort, s.link.all.countP (Entry.isOf rp) ≤ 1) ∧
  (∀ u : Fin 6,
    match s.link.health[u].health with
    | .up => s.link.health[u].failures = 0
    | .degraded => s.link.health[u].failures = 1 ∨ s.link.health[u].failures = 2
    | .down => s.link.health[u].failures = 3) ∧
  (∀ u : Fin 6, s.params.link.enabled[u] = false → s.link.health[u].health = .down)

/-- Whether a transaction is the survey's READ of a point. -/
def Entry.reads (p : Fin 48) (e : Entry) : Bool :=
  match e.origin with
  | .surveyRead q _ => q == p
  | .surveyPoll | .port _ _ => false

/-- The pass: its outstanding count is the number of the survey's transactions on the link, a pass is in progress exactly
while there is one (R30), and no point has more than one READ there (R28). -/
def PassInv (s : State) : Prop :=
  s.survey.outstanding = s.link.all.countP Entry.isSurvey ∧ (s.survey.inPass = true ↔ 0 < s.survey.outstanding) ∧
  ∀ p : Fin 48, s.link.all.countP (Entry.reads p) ≤ 1

/-! ### Flow computer (chapter 3) -/

/-- The range of a K-factor (Table 3-2). -/
def MetParams.kInRange (m : MetParams) : Prop := ∀ c : Fin 8, 1000 ≤ m.channels[c].kp ∧ m.channels[c].kp ≤ 9999999

/-- The K-factors in force and stored lie in their range; the cycle positions lie within −3 to +3, the volume residues
within 0 to Kp − 1 and the energy residues within 0 to 3,599 (Table 3-1, R54). -/
def ResidueInv (s : State) : Prop :=
  s.metro.params.kInRange ∧ (∀ img, s.store.metImage = some img → img.content.params.kInRange) ∧
  ∀ c : Fin 8,
    -3 ≤ s.flow.channels[c].pos ∧ s.flow.channels[c].pos ≤ 3 ∧
    s.flow.channels[c].volFwd < s.metro.params.channels[c].kp ∧ s.flow.channels[c].volRev < s.metro.params.channels[c].kp ∧
    s.flow.channels[c].enFwd < 3600 ∧ s.flow.channels[c].enRev < 3600

/-- The sequence numbers of a log of which `total` records have been entered: consecutive, the newest equal to the total
count (R66). -/
def seqsUpTo (total : Nat) (log : List LogRecord) : Prop :=
  log.length ≤ total ∧ log.map LogRecord.seq = (List.range log.length).map fun k => total - log.length + 1 + k

/-- The interval log: at most 1,440 records, consecutive up to the total count, and none gone while that is at most 1,440
(R66). -/
def LogInv (s : State) : Prop :=
  s.flow.log.length ≤ 1440 ∧ seqsUpTo s.flow.total s.flow.log ∧ (s.flow.total ≤ 1440 → s.flow.log.length = s.flow.total)

/-! ### Nominations (chapter 8) -/

/-- A ratchet table within its ranges, its fills strictly ascending (Table 8-1). -/
def Ratchet.ok (r : Ratchet) : Prop :=
  ascending (r.toList.map Prod.fst) = true ∧
    ∀ p ∈ r.toList, (0 ≤ p.1 ∧ p.1 ≤ 1000000) ∧ (0 ≤ p.2 ∧ p.2 ≤ 1000000)

/-- The confirmed rates of an hour. -/
def confirmedRates (entries : List NomEntry) (h : Nat) : List Int := (entries.filter fun e => e.hour == h).map (·.confirmed)

/-- The entries of the table: in strict order of slot and hour, one a shipper and hour; in the window; a requested rate in
range and not 0; the clamped rate 0 or of its sign and not above it in magnitude, and the confirmed rate so by the clamped
(R143, R151, R153). -/
def entriesSound (n : Nominations) : Prop :=
  n.entries.Pairwise (fun a b => a.slot < b.slot ∨ (a.slot = b.slot ∧ a.hour < b.hour)) ∧
  ∀ e ∈ n.entries,
    1 ≤ e.slot ∧ e.slot ≤ 32 ∧ n.current ≤ e.hour ∧ e.hour ≤ n.current + 23 ∧
    e.requested ≠ 0 ∧ e.requested.natAbs ≤ 100000000000 ∧
    (e.clamped = 0 ∨ sign e.clamped = sign e.requested) ∧ e.clamped.natAbs ≤ e.requested.natAbs ∧
    (e.confirmed = 0 ∨ sign e.confirmed = sign e.clamped) ∧ e.confirmed.natAbs ≤ e.clamped.natAbs

/-- The law of R153, while the SC6 runs, for every hour of the clock's window: the with-flow confirmed magnitudes
do not exceed the capacity last used for the hour plus the counter-flow confirmed magnitudes; and the summaries are those
of the window's hours (R143). While the clock is VALID the window does not run ahead of it, and the firm horizon never
stands before the window (R143). -/
def NomInv (s : State) : Prop :=
  s.params.ratchetInj.ok ∧ s.params.ratchetWdr.ok ∧
  (∀ img, s.store.opImage = some img → img.content.ratchetInj.ok ∧ img.content.ratchetWdr.ok) ∧
  (s.running = true → s.time.lost = false → s.nom.current ≤ s.time.clock / 3600) ∧ s.nom.current ≤ s.nom.firm ∧
  entriesSound s.nom ∧
  s.nom.summaries.map (·.hour) = (List.range 24).map (s.nom.current + ·) ∧
  ∀ sm ∈ s.nom.summaries,
    (sm.direction = -1 ∨ sm.direction = 0 ∨ sm.direction = 1) ∧ 0 ≤ sm.capacity ∧
    (s.running = true → s.nom.outside s.nomEnv sm.hour = false → sm.direction ≠ 0 →
      magnitudes sm.direction (confirmedRates s.nom.entries sm.hour) ≤
        sm.capacity + magnitudes (-sm.direction) (confirmedRates s.nom.entries sm.hour))

/-! ### Account book (chapter 9) -/

/-- Every shipper's inventory lies between 0 and its space, and no space, opened or staged, exceeds its range (R160,
Table 9-1, R162). -/
def SlotInv (s : State) : Prop :=
  (∀ i : Fin 33, i ≠ 0 →
    0 ≤ s.book.slots[i].inventory ∧ s.book.slots[i].inventory ≤ s.book.slots[i].space ∧
    s.book.slots[i].space ≤ 1000000000000000) ∧
  (∀ i : Fin 32, ∀ e, s.book.opening[i] = some e → e.space ≤ 1000000000000000)

/-- The sum of all inventories (R174). -/
def inventorySum (slots : Vector Slot 33) : Int := (slotIndices.map fun i => slots[i].inventory).sum

/-- The day record list: at most eight, in strictly ascending order, each before the open gas day (R179, R181); while the
clock is VALID, it stands its ticks past the open interval's start (R57, R58); and a completion untaken has a length, and
its start on the clock, unless it is flagged CLOCK_LOST (R61, R63). -/
def DayInv (s : State) : Prop :=
  s.book.dayRecords.length ≤ 8 ∧
  s.book.dayRecords.Pairwise (fun a b => a.day < b.day) ∧
  (∀ d ∈ s.book.dayRecords, ∃ g, s.book.openDay = some g ∧ d.day < g) ∧
  (s.running = true → s.time.lost = false → s.time.clock = s.time.openStart + s.time.openTicks) ∧
  (∀ u ∈ s.flow.untaken, u.record.lost = false → 0 < u.record.length ∧ u.record.length ≤ u.record.endTime)

/-! ### Parameter store (chapter 11) -/

/-- The images hold what is in force (R201, R202, R206), and the change list holds at most 64 entries (R204). -/
def StoreInv (s : State) : Prop :=
  (s.store.opValid = true → s.store.opImage = some (opImage s.params)) ∧
  s.store.metImage = some (metImage s.metro) ∧
  s.store.changeList.length ≤ 64

/-- While the metrology image is NOT_CALIBRATED, a channel is calibrated exactly when its K mark and all twenty site marks
are set, and not all eight are; while it is VALID the marks are discarded (R206). -/
def CalibrationInv (s : State) : Prop :=
  if s.metro.valid then s.metro.kMarks = 0 ∧ s.metro.siteMarks = 0
  else
    (∀ c : Fin 8, s.metro.calibrated.getLsbD c.val =
      (s.metro.kMarks.getLsbD c.val && decide (s.metro.siteMarks = BitVec.allOnes 20))) ∧
    ∃ c : Fin 8, s.metro.calibrated.getLsbD c.val = false

/-! ### Sizes and port states -/

/-- The bounds of Table 6-1 on what grows: pressure-rate rings (R16), start logs (R94), the start queue (R96); and the
clock's range (R57). -/
def SizeInv (s : State) : Prop :=
  (∀ i : Fin 6, s.move.caverns[i].ring.length ≤ 60) ∧
  (∀ i : Fin 4, s.duty.units[i].startLog.length ≤ 6) ∧
  s.time.clock ≤ 4294967295

/-- A port sends exactly in SENDING, and withholds an answer exactly in HELD (R185, R188). -/
def PortState.sound (p : PortState) : Prop :=
  (p.sending.isSome = true ↔ p.rx = .sending) ∧ (p.held.isSome = true ↔ p.rx = .held) ∧
  (p.rx = .waiting → p.frame = none) ∧ (p.rx = .sending → p.frame = none)

/-- The three ports sound; COM never HELD; and a port's access on the link is in EARLY mode exactly while its slot is
PENDING, in HOLD mode exactly while its answer is withheld and not yet ready (R81, R82). -/
def PortInv (s : State) : Prop :=
  (∀ p : Port, (s.ports.get p).sound) ∧ s.ports.com.rx ≠ .held ∧
  ∀ rp : RemotePort,
    (s.link.all.any (fun e => e.origin == .port rp .early) = true ↔ (s.ports.remote rp).slot = .pending) ∧
    (s.link.all.any (fun e => e.origin == .port rp .hold) = true ↔
      ∃ w, (s.ports.get rp.port).held = some w ∧ w.ready = none)

end Sys2Proof.Machine
end

