-- ==== Sys2Proof/Certificates/Slice0/Obligations.lean ====
section
/-! DEFINITION. The statements about the SC6 that are to be proved, chapter by chapter. `State.takes` says that a request
has passed its port's checks (R186); `answered` and `State.answers` say what answer its port sends; `State.rederived`,
`State.settled` and `State.sameElsewhere` are the frames. -/

section
open Sys2Proof Sys2Proof.Machine

/-! ### The machine as a whole -/

/-- One step takes the command at the front of the queue and runs it with the queue's rest. With none waiting, a running
SC6 takes the completions that stand untaken, or lets a millisecond pass up to the last one before a whole second, and
one that does not run idles: the steps without a command are the model's choice (notes/assumptions/2.md and 28.md). -/
def Obligations.StepTakesFrontCommand : Prop :=
  (∀ (s : State) (c : Instr) (rest : List Instr), s.pending = c :: rest → step s = exec c { s with pending := rest }) ∧
  ∀ s : State, s.pending = [] →
    (s.running = false → step s = .next s) ∧
    (s.running = true → s.flow.untaken ≠ [] → step s = .next s.takeUntaken.driveOutputs) ∧
    (s.running = true → s.flow.untaken = [] →
      step s = .next (if s.time.elapsedMs % 1000 = 999 then s else s.passMs 1))

/-- Every command has an effect in every state: a next state, which leaves the waiting commands alone and whose output
lines are those of the state (R15, R86, R108, R135, R192, R207). -/
def Obligations.EveryCommandAnswersNext : Prop :=
  ∀ (c : Instr) (s : State), ∃ t, exec c s = .next t ∧ t.pending = s.pending ∧ t.out = t.outputs

/-- Every invariant holds right after reset. -/
def Obligations.InvariantsHoldAtReset : Prop :=
  ModeInv .reset ∧ CavernInv .reset ∧ OutputInv .reset ∧ UnitInv .reset ∧ TrainInv .reset ∧ LinkInv .reset ∧
  PassInv .reset ∧ ResidueInv .reset ∧ LogInv .reset ∧ NomInv .reset ∧ SlotInv .reset ∧ DayInv .reset ∧
  StoreInv .reset ∧ CalibrationInv .reset ∧ SizeInv .reset ∧ PortInv .reset ∧ ResetInv .reset

/-! ### Invariants that every step keeps -/

/-- Every step keeps SHUTDOWN the mode exactly under a latched site record and a changeover running exactly in CHANGEOVER
(R6, R7, R9, R10), and leaves the caverns' states and flags and the boost decision as R12, R13 and R19 derive them. -/
def Obligations.StepKeepsSiteInv : Prop :=
  ∀ s t : State, step s = .next t → (ModeInv s → ModeInv t) ∧ (CavernInv s → CavernInv t)

/-- Every step keeps the compressor units' rules: one start slot, one queue entry a unit, every queued unit STOPPED, trips
and service (R92, R93, R96, R97, R101). -/
def Obligations.StepKeepsUnitInv : Prop := ∀ s t : State, ResetInv s → UnitInv s → step s = .next t → UnitInv t

/-- Every step keeps the law of R108 for both trains, and each train TRIPPED exactly under a latched record (R109). -/
def Obligations.StepKeepsTrainInv : Prop := ∀ s t : State, ResetInv s → TrainInv s → step s = .next t → TrainInv t

/-- Every step keeps the link's rules: at most eight waiting, one access a port, nothing idle while an entry waits, the
health counts, a DISABLED unit DOWN (R70, R71, R74, R76); and the outstanding count of the pass equal to the survey's
transactions on the link, with the pass in progress exactly while there is one (R30), and no point with two READs there
(R28). -/
def Obligations.StepKeepsLinkInv : Prop :=
  ∀ s t : State, step s = .next t → (LinkInv s → LinkInv t) ∧ (PassInv s → PassInv t)

/-- Every step keeps the volatile state at its reset values until a start-up has completed: every trip record clear, every
output inactive, no tower HEATING and no tower timer (R124, R207). -/
def Obligations.StepKeepsResetInv : Prop := ∀ s t : State, ResetInv s → step s = .next t → ResetInv t

/-- Every step keeps the cycle positions, the residues and the K-factors within their ranges (Table 3-1, R48, R54); and the
interval log at most 1,440 records long with consecutive sequence numbers, the newest equal to the total count, as long as
that count has room for one more record (R66). -/
def Obligations.StepKeepsFlowInv : Prop :=
  ∀ s t : State, step s = .next t →
    (ResidueInv s → ResidueInv t) ∧ (s.flow.total < 4294967295 → LogInv s → LogInv t)

/-- Every step keeps the nomination table sound and the law of R153: no entry confirmed above its clamped rate, and no
hour's with-flow confirmations above its capacity and counter-flow together; the hours outside the clock's window are left
out while the table is yet to follow the clock's hour (notes/assumptions/11.md). -/
def Obligations.StepKeepsNominationInv : Prop := ∀ s t : State, NomInv s → step s = .next t → NomInv t

/-- Every step keeps every shipper's inventory between 0 and its space (R160); and at most eight day records, in ascending
order of gas day, all before the open one (R179, R181). -/
def Obligations.StepKeepsBookInv : Prop :=
  ∀ s t : State, step s = .next t → (SlotInv s → SlotInv t) ∧ (DayInv s → DayInv t)

/-- Every step keeps the stored images equal to what is in force, the change list within 64 entries, the calibration
as R206 derives it from the marks, and the bounds of Table 6-1 on rings, start logs and the clock. -/
def Obligations.StepKeepsStoreInv : Prop :=
  ∀ s t : State, step s = .next t →
    (StoreInv s → StoreInv t) ∧ (StoreInv s → CalibrationInv s → CalibrationInv t) ∧ (SizeInv s → SizeInv t)

/-- Every step keeps the port states sound: an answer exactly while SENDING, a withheld one exactly while HELD, COM never
HELD, and a port's access on the link exactly while its slot is PENDING or its answer withheld (R81, R82, R185, R188). -/
def Obligations.StepKeepsPortInv : Prop :=
  ∀ s t : State, LinkInv s → PortInv s → step s = .next t → PortInv t

/-- After every step an output is active only as the manual allows it: a permissive only toward a cavern that may flow
(R15), a run output only at a started unit (R86), a tower select only at an ADSORBING tower and a heater only at a
HEATING one of a train in service (R108), an attention line only for an enabled cause (R192), and none during a reset
(R207). On a running SC6 it is active there: toward every FLOWING cavern (R15), at every STARTING or RUNNING unit (R86), at
every ADSORBING tower and at the heater of every HEATING one (R108), unless a latched record forces it (R135). -/
def Obligations.OutputsActOnlyWhereAllowed : Prop :=
  ∀ s t : State, OutputInv s → CavernInv s → TrainInv s → ResetInv s → step s = .next t →
    (t.running = false → t.out = .inactive) ∧
    (∀ i : Fin 6, t.out.permissive[i] = true →
      (t.move.mode = .inject ∨ t.move.mode = .withdraw) ∧ t.params.caverns[i].enabled = true ∧
      t.prot.latched .site = false ∧ t.prot.latched (.cavern i) = false ∧ t.link.health[i].health ≠ .down ∧
      ((t.cavernPoint i).quality = .good ∨ (t.cavernPoint i).quality = .held)) ∧
    (∀ i : Fin 4, t.out.run[i] = true →
      (t.duty.units[i].state = .starting ∨ t.duty.units[i].state = .running) ∧ t.prot.latched .site = false ∧
      t.prot.latched (.unit i) = false) ∧
    (∀ k : Fin 2, ∀ i : Fin 2, t.out.towerSelect[2 * k.val + i.val] = true →
      t.dryer.trains[k].towers[i].state = .adsorbing ∧ t.prot.latched .site = false) ∧
    (∀ k : Fin 2, t.out.heater[k] = true →
      (∃ i : Fin 2, t.dryer.trains[k].towers[i].state = .heating) ∧
      t.dryer.trains[k].state ≠ .tripped ∧ t.dryer.trains[k].state ≠ .outOfService) ∧
    (t.running = true →
      (t.out.attnOps = true ↔ ∃ b : Fin 11, t.ports.ops.causes.getLsbD b = true ∧ t.ports.ops.mask.getLsbD b = true) ∧
      (t.out.attnCom = true ↔ ∃ b : Fin 11, t.ports.com.causes.getLsbD b = true ∧ t.ports.com.mask.getLsbD b = true) ∧
      (t.out.attnMet = true ↔ ∃ b : Fin 11, t.ports.met.causes.getLsbD b = true ∧ t.ports.met.mask.getLsbD b = true)) ∧
    (t.running = true → t.prot.latched .site = false →
      (∀ i : Fin 6, t.move.caverns[i].state = .flowing → t.prot.latched (.cavern i) = false → t.out.permissive[i] = true) ∧
      (∀ i : Fin 4, t.duty.units[i].state = .starting ∨ t.duty.units[i].state = .running →
        t.prot.latched (.unit i) = false → t.out.run[i] = true) ∧
      (∀ k : Fin 2, ∀ i : Fin 2, t.dryer.trains[k].towers[i].state = .adsorbing →
        t.out.towerSelect[2 * k.val + i.val] = true) ∧
      (∀ k : Fin 2, ∀ i : Fin 2, t.dryer.trains[k].towers[i].state = .heating → t.prot.latched (.train k) = false →
        t.out.heater[k] = true))

/-! ### Ports (chapter 10) -/

/-- R189: Table 10-3 by row and by value, each kind at the ports marked for it and no other, and a kind value not in the
table refused. -/
def Obligations.AccessTable : Prop :=
  (∀ row ∈ tableRows, row.2.map kindCode = (List.range row.2.length).map (row.1 + ·)) ∧
  (∀ k : ReqKind, ∃ row ∈ tableRows, k ∈ row.2) ∧
  (∀ (p : Port) (k : ReqKind), mayIssue p k = true ↔ p ∈ ownPorts k) ∧
  (∀ (k : ReqKind) (w : Taking) (r : Request) (s : State), s.accepting r.port = true → r.port ∉ ownPorts k →
    exec (ofRequest k w r) s = .next (answered r k .refusedAccess [] s)) ∧
  (∀ (kind : Byte) (r : Request) (s : State), s.accepting r.port = true → kindOfCode kind.toNat = none →
    exec (.undefinedRequestKind r kind) s = .next (answeredAs r kind .refusedAccess [] s))

/-- The second check of R186: a payload has the arguments of its kind exactly where its length is one of Table 10-11, and
a request of another length is refused with REFUSED_RANGE and changes nothing. -/
def Obligations.PayloadLengths : Prop :=
  (∀ (k : ReqKind) (bs : List Byte), (arguments k bs).isSome = allowedLength k bs.length) ∧
  ∀ (k : ReqKind) (w : Taking) (r : Request) (s : State), s.accepting r.port = true → r.port ∈ ownPorts k →
    allowedLength k r.payload.length = false →
    exec (ofRequest k w r) s = .next (answered r k .refusedRange [] s)

/-- A request that arrives during a reset or while its port sends has no effect (R185, R207); one that arrives at a port in
HELD is discarded, and the held answer goes out if it is ready (R81, R188). -/
def Obligations.PortThatTakesNoRequest : Prop :=
  ∀ (i : Instr) (kind : Byte) (r : Request) (s : State), requestOf i = some (kind, r) →
    (s.running = false → exec i s = .next s.driveOutputs) ∧
    (s.running = true → (s.ports.get r.port).rx = .sending → exec i s = .next s.driveOutputs) ∧
    (∀ w, s.running = true → (s.ports.get r.port).rx = .held → (s.ports.get r.port).held = some w →
      exec i s = .next (s.onPort r.port fun p =>
        match w.ready with
        | none => { p with frame := none }
        | some a => { p with rx := .sending, frame := none, sending := some a, held := none }).driveOutputs)

/-- The reads change nothing (section 10.6, R199, R205): each is answered OK with its content, or as R197 and R198 refuse
it; the contents have their lengths; and a long answer's segments are its content cut in pieces of 238 bytes (R187). The
contents and lengths of READ_STATUS and READ_PARAMETERS rest on four layouts that are the model's choice
(notes/assumptions/30.md); the rates of an empty previous-hour copy are free values (25.md). -/
def Obligations.ReadsAnswerWithoutEffect : Prop :=
  (∀ (r : Request) (s : State), s.takes .readStatus r [] →
    exec (.readStatus r) s = .next (answered r .readStatus .ok (statusContent r.port s) s)) ∧
  (∀ (r : Request) (s : State), s.takes .readAccounts r [] →
    exec (.readAccounts r) s = .next (answered r .readAccounts .ok (accountsContent s) s)) ∧
  (∀ (r : Request) (s : State), s.takes .readNominations r [] →
    exec (.readNominations r) s = .next (answered r .readNominations .ok (nominationsContent s) s)) ∧
  (∀ (r : Request) (s : State), s.takes .readMetrologyList r [] →
    exec (.readMetrologyList r) s = .next (answered r .readMetrologyList .ok (changeListContent s) s)) ∧
  (∀ (r : Request) (s : State) (v : Int), s.takes .readParameters r [v] →
    exec (.readParameters r) s = .next
      (if v = 0 then answered r .readParameters .ok s.params.bytes s
       else if v = 1 then answered r .readParameters .ok s.metro.params.bytes s
       else answered r .readParameters .refusedRange [] s)) ∧
  (∀ (r : Request) (s : State) (n : Nat), s.takes .readIntervals r [(n : Int)] →
    (∀ x, s.flow.log.find? (fun y => y.seq == n) = some x →
      exec (.readIntervals r) s = .next (answered r .readIntervals .ok (recordContent x) s)) ∧
    (s.flow.log.find? (fun y => y.seq == n) = none →
      exec (.readIntervals r) s = .next (answered r .readIntervals .refusedRange
        (match s.flow.log with
         | [] => beNone 4 ++ beNone 4
         | x :: _ => be 4 x.seq ++ be 4 s.flow.total) s))) ∧
  (∀ (r : Request) (s : State) (d : Int), s.takes .readDayRecords r [d] →
    let wanted := if d = -2147483648 then s.book.dayRecords.getLast? else s.book.dayRecords.find? (fun x => x.day == d)
    exec (.readDayRecords r) s = .next
      (match wanted with
       | some x => answered r .readDayRecords .ok (dayContent x) s
       | none => answered r .readDayRecords .refusedRange
           (beDay (s.book.dayRecords.head?.map (·.day)) ++ beDay (s.book.dayRecords.getLast?.map (·.day))) s)) ∧
  (∀ s : State,
    (∀ p : Port, (statusContent p s).length =
      1429 + 3 * s.duty.queue.length + if p = .com then 0 else 2) ∧
    s.params.bytes.length = 2739 ∧ s.metro.params.bytes.length = 192 ∧
    (pointsContent s).length = 384 ∧ (accountsContent s).length = 3465 ∧
    (changeListContent s).length = 4 + 15 * s.store.changeList.length ∧
    (nominationsContent s).length = 17 + 30 * s.nom.entries.length + 31 * s.nom.summaries.length + 260) ∧
  (∀ x : IntervalRecord, (recordContent (.interval x)).length = 316) ∧
  (∀ bs : List Byte, bs.length ≤ 30464 →
    (segments 127 bs).flatten = bs ∧ (segments 127 bs).length ≤ 128 ∧
    (∀ p ∈ (segments 127 bs).dropLast, p.length = 238) ∧ ∀ p ∈ segments 127 bs, p.length ≤ 238)

/-- READ_POINTS clears POINT_ALARM from OPS alone (R38, R196); ACK_CAUSES clears the causes it names and SET_MASK sets the
mask of its own port, each refused with one of bits 11 to 15 set (R193, R194). Nothing else changes. -/
def Obligations.CauseRequests : Prop :=
  (∀ (r : Request) (s : State), s.takes .readPoints r [] →
    exec (.readPoints r) s = .next (answered r .readPoints .ok (pointsContent s)
      (if r.port = .ops then s.onPort .ops fun p => { p with causes := p.causes &&& ~~~(8#11) } else s))) ∧
  (∀ (r : Request) (s : State) (n : Nat), s.takes .ackCauses r [(n : Int)] →
    exec (.ackCauses r) s = .next
      (if n < 2048 then
        answered r .ackCauses .ok (be 2 ((s.ports.get r.port).causes &&& ~~~(BitVec.ofNat 11 n)).toNat)
          (s.onPort r.port fun p => { p with causes := p.causes &&& ~~~(BitVec.ofNat 11 n) })
       else answered r .ackCauses .refusedRange [] s)) ∧
  (∀ (r : Request) (s : State) (n : Nat), s.takes .setMask r [(n : Int)] →
    exec (.setMask r) s = .next
      (if n < 2048 then
        answered r .setMask .ok (be 2 n ++ be 2 (s.ports.get r.port).causes.toNat)
          (s.onPort r.port fun p => { p with mask := BitVec.ofNat 11 n })
       else answered r .setMask .refusedRange [] s))

/-- The receive states (R185, R188, R191): a C5h byte, a bad length byte, a wrong CRC, a pause, a frame completed in HELD
and the last byte of an answer, in each state in which they act. `release` is a port in HELD whose frame has ended. That
these events are what the port sees of a frame is the model's choice (notes/assumptions/1.md and 18.md). -/
def Obligations.ReceiverEvents : Prop :=
  ∀ (p : Port) (s : State), s.running = true →
    let x := s.ports.get p
    let put (y : PortState) : Host.Outcome State Fault Refusal := .next (s.onPort p fun _ => y).driveOutputs
    let waits : PortState := { x with rx := .waiting, frame := none, sending := none, rate := s.params.rate p }
    let release (w : Withheld) : PortState :=
      match w.ready with
      | none => { x with frame := none }
      | some a => { x with rx := .sending, frame := none, sending := some a, held := none }
    (x.rx = .waiting → exec (.frameStart p) s = put { x with rx := .collecting, frame := some [0xC5#8] }) ∧
    (∀ bs, x.rx = .collecting → x.frame = some bs →
      exec (.frameStart p) s = put { x with frame := some (bs ++ [0xC5#8]) }) ∧
    (x.rx = .held → x.frame = none → exec (.frameStart p) s = put { x with frame := some [0xC5#8] }) ∧
    (x.rx = .sending → exec (.frameStart p) s = put x) ∧
    (∀ n : Byte, n.toNat < 2 ∨ 242 < n.toNat →
      (x.rx = .collecting → exec (.frameLengthInvalid p n) s = put waits) ∧
      (∀ w, x.rx = .held → x.held = some w → exec (.frameLengthInvalid p n) s = put (release w))) ∧
    (x.rx = .collecting → exec (.frameCrcError p) s = put waits ∧ exec (.framePauseTimeout p) s = put waits) ∧
    (∀ w, x.rx = .held → x.held = some w →
      exec (.frameCrcError p) s = put (release w) ∧ exec (.framePauseTimeout p) s = put (release w) ∧
      exec (.heldFrameDiscard p) s = put (release w)) ∧
    (x.rx = .sending →
      exec (.answerSent p) s = .next
        ({ s.onPort p (fun _ => waits) with
            power := if p = .ops ∧ s.power.restart = .answering then { s.power with restart := .due }
              else s.power } : State).driveOutputs)

/-- Every well-formed request is the command that its own frame decodes to; the frame is six bytes longer than the payload,
and with any other CRC-16 it is a frame with a wrong CRC (R183, R185). -/
def Obligations.FramesRoundTrip : Prop :=
  ∀ (i : Instr) (kind : Byte) (r : Request), i.wf = true → requestOf i = some (kind, r) →
    ∃ w bytes, encodeFrame i = some bytes ∧ bytes.length = r.payload.length + 6 ∧
      decodeFrame r.port w bytes = some i ∧
      ∀ a b : Byte, [a, b] ≠ bytes.drop (r.payload.length + 4) →
        decodeFrame r.port w (bytes.take (r.payload.length + 4) ++ [a, b]) = some (.frameCrcError r.port)

/-! ### The wellhead link (chapter 4) -/

/-- A remote access by the table of R80, line by line, at OPS or MET; past it, the access joins the link by R70 and R71,
with the first registers of the staging buffer for a write, and the port is HELD (R81, R188), or answers ACCEPTED with its
slot PENDING and an unfetched result gone with REMOTE_DONE (R82). The link tag of a transaction started at once counts it
(notes/assumptions/9.md). -/
def Obligations.RemoteAccess : Prop :=
  ∀ (write : Bool) (rp : RemotePort) (r : Request) (s : State) (unit device first count : Int),
    let k : ReqKind := if write then .remoteWrite else .remoteRead
    let i : Instr := if write then .remoteWrite r else .remoteRead r
    let timeout := s.params.link.timeout
    r.port = rp.port → LinkInv s → s.takes k r [unit, device, first, count] →
    (unit < 1 ∨ 6 < unit ∨ 7 < device ∨ 31 < first ∨ count < 1 ∨ 7 < count ∨ 32 < first + count →
      exec i s = .next (answered r k .refusedRange [] s)) ∧
    (∀ (u : Fin 6) (d : Fin 8) (f : Fin 32) (n : Nat), unit = u.val + 1 → device = d.val → first = f.val → count = n →
      1 ≤ n → n ≤ 7 → f.val + n ≤ 32 →
      let old := s.ports.remote rp
      let e : Entry :=
        { kind := if write then .write else .read, unit := u, device := d, first := f, count := n,
          values := if write then old.staging.toList.take n else [], origin := .port rp old.mode }
      let linked : State := { s with link := linkAfterOffer timeout e s.link }
      (s.params.link.enabled[u] = false → exec i s = .next (answered r k .refusedState [] s)) ∧
      (s.params.link.enabled[u] = true → s.link.all.any (Entry.isOf rp) = true →
        exec i s = .next (answered r k .refusedBusy [] s)) ∧
      (s.params.link.enabled[u] = true → s.link.all.any (Entry.isOf rp) = false → 8 ≤ s.link.queue.length →
        exec i s = .next (answered r k .refusedBusy [] s)) ∧
      (s.params.link.enabled[u] = true → s.link.all.any (Entry.isOf rp) = false → s.link.queue.length < 8 →
        (old.mode = .hold →
          exec i s = .next (linked.onPort rp.port fun p =>
            { p with rx := .held, frame := none,
                     held := some { tag := r.tag, kind := kindByte k, ready := none } }).driveOutputs) ∧
        (old.mode = .early →
          exec i s = .next (answered r k .accepted [] (({ linked with
            ports := linked.ports.setRemote { old with slot := .pending } rp } : State).onPort rp.port fun p =>
              match old.slot with
              | .ready _ => { p with causes := p.causes &&& ~~~(128#11) }
              | _ => p)))))

/-- WRITE_STAGING replaces the registers from the first position onward, or is refused whole where they do not fit;
READ_STAGING answers the seven registers (R78); SET_ANSWER_MODE sets the mode, or is refused (R79); FETCH_REMOTE is
answered by the state of the port's result slot, and ACK_CAUSES leaves the slot as it is (R83). Nothing else changes. The
layout of the result's bytes in `resultContent` is the model's choice (notes/assumptions/20.md). -/
def Obligations.RemotePortRequests : Prop :=
  ∀ (rp : RemotePort) (r : Request) (s : State), r.port = rp.port →
    let old := s.ports.remote rp
    let withRemote (v : Remote) : State := { s with ports := s.ports.setRemote v rp }
    (∀ (first : Nat) (v : Int) (vs : List Int), s.takes .writeStaging r (first :: v :: vs) →
      (7 < first + vs.length + 1 → exec (.writeStaging r) s = .next (answered r .writeStaging .refusedRange [] s)) ∧
      (first + vs.length + 1 ≤ 7 → ∃ regs : Vector Reg16 7,
        exec (.writeStaging r) s = .next (answered r .writeStaging .ok [] (withRemote { old with staging := regs })) ∧
        (∀ j : Fin 7, j.val < first ∨ first + vs.length + 1 ≤ j.val → regs[j] = old.staging[j]) ∧
        (∀ (j : Fin 7) (k : Nat), j.val = first + k → ∀ x, (v :: vs)[k]? = some x → (regs[j].toNat : Int) = x))) ∧
    (s.takes .readStaging r [] →
      exec (.readStaging r) s = .next (answered r .readStaging .ok (stagingContent old) s) ∧
      (stagingContent old).length = 14) ∧
    (∀ v : Int, s.takes .setAnswerMode r [v] →
      exec (.setAnswerMode r) s = .next
        (if v = 0 then answered r .setAnswerMode .ok [] (withRemote { old with mode := .hold })
         else if v = 1 then answered r .setAnswerMode .ok [] (withRemote { old with mode := .early })
         else answered r .setAnswerMode .refusedRange [] s)) ∧
    (s.takes .fetchRemote r [] →
      (∀ result, (s.ports.remote rp).slot = .ready result →
        exec (.fetchRemote r) s = .next (answered r .fetchRemote .ok (resultContent result)
          (({ s with ports := s.ports.setRemote { s.ports.remote rp with slot := .empty } rp } : State).onPort rp.port
            fun p => { p with causes := p.causes &&& ~~~(128#11) }))) ∧
      ((s.ports.remote rp).slot = .pending →
        exec (.fetchRemote r) s = .next (answered r .fetchRemote .refusedBusy [] s)) ∧
      ((s.ports.remote rp).slot = .empty →
        exec (.fetchRemote r) s = .next (answered r .fetchRemote .refusedState [] s))) ∧
    (∀ n : Nat, n < 2048 → s.takes .ackCauses r [(n : Int)] →
      ∃ t, exec (.ackCauses r) s = .next t ∧ t.ports.remote rp = s.ports.remote rp ∧
        (n.testBit 7 = true → (t.ports.get r.port).causes.getLsbD 7 = false))

/-- The field link's own events (R69, R71, R72): the end of a request frame starts the attempt's timer at the timeout the
attempt was sent with; the first expiry sends the retry, with the same tag and content; the end of a settle wait starts
the head of the queue; a frame with another tag, or with nothing in flight, is discarded. An expiry acts once its timer has
run out, and has no effect before (the model's choice: notes/assumptions/4.md). The link tag counts the transactions
started (notes/assumptions/9.md). -/
def Obligations.LinkTimersAndRetry : Prop :=
  ∀ s : State, s.running = true →
    (∀ f, s.link.flight = some f → f.timer = none →
      exec .attemptTransmitted s = .next
        ({ s with link := { s.link with flight := some { f with timer := some f.timeout } } } : State).driveOutputs) ∧
    (∀ f, s.link.flight = some f → f.retry = false → f.timer = some 0 →
      let again : Flight := { f with retry := true, timeout := s.params.link.timeout, timer := none }
      exec .attemptTimeout s = .next
        ({ s with link := { s.link with flight := some again } } : State).driveOutputs) ∧
    ((∀ f, s.link.flight = some f → f.timer ≠ some 0) → exec .attemptTimeout s = .next s.driveOutputs) ∧
    (s.link.settle ≠ some 0 → exec .settleWaitExpiry s = .next s.driveOutputs) ∧
    (s.link.flight = none → s.link.settle = some 0 →
      exec .settleWaitExpiry s = .next
        ({ s with link :=
            match s.link.queue with
            | [] => { s.link with settle := none }
            | e :: rest =>
              { s.link with settle := none, queue := rest, started := s.link.started + 1,
                            flight := some { entry := e, tag := BitVec.ofNat 8 (s.link.started + 1), retry := false,
                                             timeout := s.params.link.timeout, timer := none } } } : State).driveOutputs) ∧
    (∀ frame : LinkFrame,
      (s.link.flight = none → exec (.linkFrameReceived frame) s = .next s.driveOutputs) ∧
      (∀ f, s.link.flight = some f → frame.intact = true → frame.tag ≠ f.tag →
        exec (.linkFrameReceived frame) s = .next s.driveOutputs))

/-- The end of a transaction (R71 to R75): a valid reply ends it, a bad reply or the expiry of the retry fails it. The
unit's health moves by the table of R74 and its lines by R75, unless the unit is DISABLED; the next transaction starts
at once, or after a settle wait where the retry was sent; and the outcome reaches its originator (R30, R32, R81, R82). The
channels that read the unit, or an alarm flag that a publication changes, evaluate their sources in this event (R126 to
R128), a changed flag raises POINT_ALARM (R38), and a changed confirmation CURTAILMENT (R156). The
link tag counts the transactions started (notes/assumptions/9.md); which frames answer a transaction is a deduction
(`frameAnswers`, notes/assumptions/17.md); that the expiry acts once its timer has run out is the model's
(notes/assumptions/4.md). -/
def Obligations.TransactionEnds : Prop :=
  ∀ (s : State) (f : Flight) (i : Instr) (frame : LinkFrame) (success : Bool), s.running = true → LinkInv s →
    s.link.flight = some f →
    (success = true ∧ i = .linkFrameReceived frame ∧ frame.intact = true ∧ frame.tag = f.tag ∧
        frameAnswers f.entry frame = true) ∨
      (success = false ∧ i = .linkFrameReceived frame ∧
        (frame.intact = false ∨ (frame.tag = f.tag ∧ frameAnswers f.entry frame = false))) ∨
      (success = false ∧ i = .attemptTimeout ∧ f.retry = true ∧ f.timer = some 0) →
    let u := f.entry.unit
    let timeout := s.params.link.timeout
    let old := s.link.health[u]
    let h := healthAfter success old
    let ls := if success then frame.lines
      else if h.health = .down ∧ old.health ≠ .down then s.params.link.failValues[u] else s.link.lines[u]
    let enabled := s.params.link.enabled[u]
    let base : Link :=
      { s.link with flight := none
                    settle := if f.retry then some timeout else none
                    health := if enabled then s.link.health.set u h else s.link.health
                    lines := if enabled then s.link.lines.set u ls else s.link.lines }
    ∃ t, exec i s = .next t ∧ t.power = s.power ∧ t.time = s.time ∧ t.flow = s.flow ∧ t.book = s.book ∧
      t.params = s.params ∧ t.metro = s.metro ∧ t.store = s.store ∧ t.pending = s.pending ∧ s.sameMeters t ∧
      t.link = (if f.retry then base
        else match s.link.queue with
          | [] => base
          | e :: rest =>
            { base with queue := rest, started := s.link.started + 1,
                        flight := some { entry := e, tag := BitVec.ofNat 8 (s.link.started + 1), retry := false,
                                         timeout := timeout, timer := none } }) ∧
      t.ports.ops.causes.getLsbD 2 = (s.ports.ops.causes.getLsbD 2 || (enabled && h.health != old.health)) ∧
      s.matrixFollows (fun v => v = u ∧ enabled = true) t ∧ s.curtailmentRaised t ∧
      match f.entry.origin with
      | .surveyPoll => t.survey = s.survey.report
      | .surveyRead p tag =>
        let v : Option Int :=
          if success then (match frame.reply with | .data (x :: _) => some (s.scaled p x) | _ => none) else none
        let points :=
          if s.survey.points[p].tag = tag then
            s.survey.points.set p ((s.survey.points[p]).sample s.params.points[p] v).1
          else s.survey.points
        t.survey = ({ s.survey with points := points } : Survey).report
      | .port rp .early =>
        t.survey = s.survey ∧ (t.ports.get rp.port).causes.getLsbD 7 = true ∧
        ∃ result, (t.ports.remote rp).slot = .ready result ∧ result.isWrite = (f.entry.kind == .write) ∧
          result.unit = u ∧ result.device = f.entry.device ∧ result.first = f.entry.first ∧
          result.count = f.entry.count ∧
          (match result.outcome with
           | .completed regs => success = true ∧ frame.reply ≠ .rejected ∧
              (f.entry.kind = .read → frame.reply = .data regs) ∧ (f.entry.kind ≠ .read → regs = [])
           | .rejected => success = true ∧ frame.reply = .rejected
           | .failed c => success = false ∧ (c = .timedOut ↔ i = .attemptTimeout) ∧ c ≠ .cancelled)
      | .port rp .hold =>
        t.survey = s.survey ∧
        (∀ w, (s.ports.get rp.port).rx = .held → (s.ports.get rp.port).held = some w →
          ∃ a : Answer, a.tag = w.tag ∧ a.kind = w.kind ∧
            (success = true → frame.reply ≠ .rejected → a.code = .ok) ∧
            (success = false ∨ frame.reply = .rejected → a.code = .linkFailed) ∧
            a.content = (if success = false then [if i = .attemptTimeout then 1#8 else 2#8]
              else match frame.reply with
                | .data regs => (regs.map fun x => be 2 x.toNat).flatten
                | .rejected => [0#8]
                | .done | .status => []) ∧
            ((s.ports.get rp.port).frame = none →
              (t.ports.get rp.port).rx = .sending ∧ (t.ports.get rp.port).sending = some a ∧
              (t.ports.get rp.port).held = none) ∧
            ((s.ports.get rp.port).frame ≠ none →
              (t.ports.get rp.port).rx = .held ∧ (t.ports.get rp.port).frame = (s.ports.get rp.port).frame ∧
              (t.ports.get rp.port).held = some { w with ready := some a }))

/-- SET_LINK (R75 to R77): a value outside its list refuses it whole; an accepted one is stored, and every unit it disables
goes DOWN with its lines at their fail values and loses its waiting entries, a changed fail value shows at once at a unit
that is DOWN, and the transaction in flight and the running timers go on. LINK_STATE is raised where a unit that was not DOWN
is disabled (R74, R76), and the channels that read such a unit, or a flag that a cancelled sample's publication changes,
evaluate their sources in this event (R38, R126 to R128). Each cancelled entry is reported FAILED, cause
CANCELLED: a failed sample and one transaction less of the pass at the survey (R30, R32), LINK_FAILED with reason 3 at a port
that withholds its answer (R81), a READY result with REMOTE_DONE at another (R82). The order in which the units act is the
model's choice (notes/assumptions/29.md). -/
def Obligations.SetLink : Prop :=
  ∀ (r : Request) (s : State) (timeout e1 e2 e3 e4 e5 e6 : Int) (fail : Nat),
    s.takes .setLink r [timeout, e1, e2, e3, e4, e5, e6, fail] →
    (timeout < 20 ∨ 500 < timeout ∨ (∃ e ∈ [e1, e2, e3, e4, e5, e6], e ≠ 0 ∧ e ≠ 1) →
      exec (.setLink r) s = .next (answered r .setLink .refusedRange [] s)) ∧
    (20 ≤ timeout → timeout ≤ 500 → (∀ e ∈ [e1, e2, e3, e4, e5, e6], e = 0 ∨ e = 1) →
      let on : Vector Bool 6 := #v[e1 == 1, e2 == 1, e3 == 1, e4 == 1, e5 == 1, e6 == 1]
      let old := s.params.link
      ∃ t, exec (.setLink r) s = .next t ∧ t.answers r .setLink .ok [] ∧
        t.params = { s.params with link := t.params.link } ∧ (t.params.link.timeout : Int) = timeout ∧
        t.params.link.enabled = on ∧
        (∀ (u : Fin 6) (l : Fin 4), t.params.link.failValues[u][l] = fail.testBit (4 * u.val + l.val)) ∧
        t.store = { s.store with opImage := some (opImage t.params), opValid := true } ∧
        t.power = s.power ∧ t.time = s.time ∧ t.flow = s.flow ∧ t.book = s.book ∧ t.metro = s.metro ∧
        t.pending = s.pending ∧ s.sameMeters t ∧
        t.link.flight = s.link.flight ∧ t.link.settle = s.link.settle ∧ t.link.started = s.link.started ∧
        t.link.queue = s.link.queue.filter (fun e => !(old.enabled[e.unit] && !on[e.unit])) ∧
        (∀ u : Fin 6, t.link.health[u] =
          if old.enabled[u] = true ∧ on[u] = false then { health := .down, failures := 3 } else s.link.health[u]) ∧
        (∀ (u : Fin 6) (l : Fin 4), t.link.lines[u][l] =
          if (old.enabled[u] = true ∧ on[u] = false) ∨
              (s.link.health[u].health = .down ∧ old.failValues[u][l] ≠ fail.testBit (4 * u.val + l.val)) then
            fail.testBit (4 * u.val + l.val)
          else s.link.lines[u][l]) ∧
        t.ports.ops.causes.getLsbD 2 = (s.ports.ops.causes.getLsbD 2 ||
          (List.finRange 6).any fun u => old.enabled[u] && !on[u] && s.link.health[u].health != .down) ∧
        s.curtailmentRaised t ∧
        (PassInv s → s.matrixFollows (fun u => (old.enabled[u] = true ∧ on[u] = false) ∨
          (s.link.health[u].health = .down ∧ old.failValues[u] ≠ t.params.link.failValues[u])) t) ∧
        let gone := s.link.queue.filter fun e => old.enabled[e.unit] && !on[e.unit]
        let ended := gone.countP Entry.isSurvey
        (PassInv s →
          let v : Survey := { s.survey with points := t.survey.points, outstanding := s.survey.outstanding - ended }
          t.survey = if 0 < ended ∧ ended = s.survey.outstanding then
              { v with inPass := false, consecutive := 0, completed := min 65535 (s.survey.completed + 1) }
            else v) ∧
        (∀ p : Fin 48, t.survey.points[p] =
          (gone.filter fun e => e.origin == .surveyRead p s.survey.points[p].tag).foldl
            (fun w _ => (w.sample s.params.points[p] none).1) s.survey.points[p]) ∧
        (LinkInv s → ∀ e ∈ gone, ∀ rp : RemotePort,
          (e.origin = .port rp .early → (t.ports.get rp.port).causes.getLsbD 7 = true ∧
            (t.ports.remote rp).slot = .ready { isWrite := e.kind == .write, unit := e.unit, device := e.device,
                                                first := e.first, count := e.count, outcome := .failed .cancelled }) ∧
          (e.origin = .port rp .hold →
            ∀ w, (s.ports.get rp.port).rx = .held → (s.ports.get rp.port).held = some w →
              let a : Answer := { tag := w.tag, kind := w.kind, code := .linkFailed, content := [3#8] }
              ((s.ports.get rp.port).frame = none →
                (t.ports.get rp.port).rx = .sending ∧ (t.ports.get rp.port).sending = some a ∧
                (t.ports.get rp.port).held = none) ∧
              ((s.ports.get rp.port).frame ≠ none →
                (t.ports.get rp.port).rx = .held ∧ (t.ports.get rp.port).held = some { w with ready := some a }))))

/-! ### The survey scheduler (chapter 2) -/

/-- SET_POINT (R25): refused whole outside the ranges of Table 2-1, or stored, with the point's working state moved by
Table 2-2, line by line, and no other point's; a changed alarm flag raises POINT_ALARM (R38), and the channels that read it
evaluate their sources in this event (R126 to R128). -/
def Obligations.SetPoint : Prop :=
  (∀ point enable source input device register low high mode a k aHigh aLow hyst held failed : Int,
    (pointArgs [point, enable, source, input, device, register, low, high, mode, a, k, aHigh, aLow, hyst, held,
        failed]).isSome = true ↔
      (0 ≤ point ∧ point ≤ 47) ∧ (enable = 0 ∨ enable = 1) ∧
      ((source = 0 ∧ 0 ≤ input ∧ input ≤ 15) ∨
        (source = 1 ∧ (1 ≤ input ∧ input ≤ 6) ∧ (0 ≤ device ∧ device ≤ 7) ∧ (0 ≤ register ∧ register ≤ 31))) ∧
      (0 ≤ mode ∧ mode ≤ 3) ∧ (1 ≤ a ∧ a ≤ 16) ∧ (0 ≤ k ∧ k ≤ 15) ∧ aLow ≤ aHigh ∧
      (0 ≤ hyst ∧ hyst ≤ 2147483647) ∧ (2 ≤ held ∧ held ≤ 600) ∧ (10 ≤ failed ∧ failed ≤ 3600) ∧ held < failed) ∧
  (∀ (r : Request) (s : State) (args : List Int), s.takes .setPoint r args →
    (pointArgs args = none → exec (.setPoint r) s = .next (answered r .setPoint .refusedRange [] s)) ∧
    (∀ p c, pointArgs args = some (p, c) →
      let old := s.survey.points[p]
      let new := old.reconfigure s.params.points[p] c
      let q : OpParams := { s.params with points := s.params.points.set p c }
      ∃ t, exec (.setPoint r) s = .next t ∧ t.answers r .setPoint .ok [] ∧ t.params = q ∧
        t.store = { s.store with opImage := some (opImage q), opValid := true } ∧
        t.survey = { s.survey with points := s.survey.points.set p new } ∧
        s.matrixFollows (fun _ => False) t ∧ s.curtailmentRaised t ∧
        t.power = s.power ∧ t.time = s.time ∧ t.link = s.link ∧ t.flow = s.flow ∧ t.book = s.book ∧
        t.metro = s.metro ∧ t.pending = s.pending ∧ s.sameMeters t)) ∧
  (∀ (old new : PointConfig) (p : PointState),
    let q := p.reconfigure old new
    (old = new → q = p) ∧
    ((old.enabled = true ∧ new.enabled = false) ∨ old.source ≠ new.source ∨ old.low ≠ new.low ∨ old.high ≠ new.high →
      q.value = 0 ∧ q.quality = .unknown ∧ q.age = 0 ∧ q.alarmHigh = false ∧ q.alarmLow = false ∧ q.pos = 0 ∧
      q.okCount = 0 ∧ q.acc = 0 ∧ q.skip = 0 ∧ p.tag < q.tag) ∧
    (¬(old.enabled = true ∧ new.enabled = false) → old.source = new.source → old.low = new.low → old.high = new.high →
      q.value = p.value ∧ q.age = p.age ∧
      (let limits : Prop := old.heldLimit ≠ new.heldLimit ∨ old.failedLimit ≠ new.failedLimit
       let alarms : Prop :=
         old.alarmHigh ≠ new.alarmHigh ∨ old.alarmLow ≠ new.alarmLow ∨ old.hysteresis ≠ new.hysteresis
       let judged : Prop := (alarms ∧ (p.quality = .good ∨ p.quality = .held)) ∨
         (q.quality ≠ p.quality ∧ (q.quality = .good ∨ q.quality = .held))
       q.quality = (if limits ∧ p.quality ≠ .unknown then qualityAt new p.age else p.quality) ∧
       (judged → q.alarmHigh = highAfter new p.value p.alarmHigh ∧ q.alarmLow = lowAfter new p.value p.alarmLow) ∧
       (alarms → p.quality = .unknown → q.alarmHigh = false ∧ q.alarmLow = false) ∧
       (¬judged → ¬alarms ∨ p.quality ≠ .unknown → q.alarmHigh = p.alarmHigh ∧ q.alarmLow = p.alarmLow)) ∧
      ((old.enabled = false ∧ new.enabled = true) ∨ old.reduction ≠ new.reduction ∨ old.avg ≠ new.avg ∨
          old.skips ≠ new.skips →
        q.pos = 0 ∧ q.okCount = 0 ∧ q.acc = 0 ∧ q.skip = 0 ∧ p.tag < q.tag) ∧
      (¬(old.enabled = false ∧ new.enabled = true) → old.reduction = new.reduction → old.avg = new.avg →
          old.skips = new.skips →
        q.pos = p.pos ∧ q.okCount = p.okCount ∧ q.acc = p.acc ∧ q.skip = p.skip ∧ q.tag = p.tag)))

/-- PASS_DUE (R26, R28 to R31) at its due instant: in IN_PASS the due pass is dropped, counted, and SURVEY_LATE raised from
the third in a row; in IDLE a pass visits the points, of which a DISABLED one is passed over, one that sits out falls by
one, a LOCAL one and a REMOTE one of a DISABLED unit take their sample at once, and the READ of another REMOTE one, with its
round tag, is offered to the link; then a STATUS poll for every enabled unit without a READ. The queue takes what it has
room for, a READ it refuses is a failed sample, and a pass with nothing outstanding is complete. A publication that changes
an alarm flag raises POINT_ALARM (R38), and the channels that read the flag evaluate their sources in this event (R126 to
R128). The grid runs on by one period at each due instant (R26). A PASS_DUE that comes before its instant has no effect, and
one that comes late acts when it comes (the model's choice: notes/assumptions/4.md); at a whole second it acts after the
ages of that second have risen (34.md). The link tag of a transaction started
counts it (notes/assumptions/9.md). -/
def Obligations.PassDue : Prop :=
  ∀ (s : State) (x : Vector Reg16 16), s.running = true →
    (s.time.elapsedMs < s.survey.nextDue → exec (.passDue x) s = .next s.driveOutputs) ∧
    (s.survey.nextDue ≤ s.time.elapsedMs →
      ∃ t, exec (.passDue x) s = .next t ∧ t.survey.nextDue = s.survey.nextDue + s.params.surveyPeriod) ∧
    (s.survey.nextDue ≤ s.time.elapsedMs → s.survey.inPass = true →
      let v : Survey := { s.survey with
        nextDue := s.survey.nextDue + s.params.surveyPeriod
        overrun := min 65535 (s.survey.overrun + 1)
        consecutive := min 65535 (s.survey.consecutive + 1) }
      let late : BitVec 11 := if 3 ≤ v.consecutive then 16#11 else 0
      s.survey.overrun ≤ 65535 → s.survey.consecutive ≤ 65535 →
      exec (.passDue x) s = .next
        ({ s with survey := v
                  ports := { s.ports with ops := { s.ports.ops with causes := s.ports.ops.causes ||| late }
                                          met := { s.ports.met with causes := s.ports.met.causes ||| late } } } :
          State).driveOutputs) ∧
    (s.survey.nextDue ≤ s.time.elapsedMs → s.survey.inPass = false → LinkInv s →
      let room := 8 - s.link.queue.length + if s.link.flight = none ∧ s.link.settle = none then 1 else 0
      let reads := s.passReads
      let polls := (List.finRange 6).filter fun u =>
        s.params.link.enabled[u] && !(reads.take room).any (fun y => y.2.unit == u)
      let offered : List Entry := (reads.take room).map Prod.snd ++ (polls.take (room - reads.length)).map fun u =>
        { kind := .status, unit := u, device := 0, first := 0, count := 0, values := [], origin := .surveyPoll }
      ∃ t, exec (.passDue x) s = .next t ∧
        (∀ p : Fin 48,
          let c := s.params.points[p]
          let w := s.survey.points[p]
          (c.enabled = false → t.survey.points[p] = w) ∧
          (c.enabled = true → 0 < w.skip → t.survey.points[p] = { w with skip := w.skip - 1 }) ∧
          (∀ input, c.enabled = true → w.skip = 0 → c.source = .local input →
            t.survey.points[p] = (w.sample c (some (scale c.low c.high x[input].toNat))).1) ∧
          (∀ u d g, c.enabled = true → w.skip = 0 → c.source = .remote u d g →
            t.survey.points[p] =
              if (reads.take room).any (fun y => y.1 == p) then w else (w.sample c none).1)) ∧
        t.link = offered.foldl (fun l e => linkAfterOffer s.params.link.timeout e l) s.link ∧
        t.survey = { s.survey with
          points := t.survey.points
          nextDue := s.survey.nextDue + s.params.surveyPeriod
          inPass := !offered.isEmpty
          outstanding := offered.length
          completed := if offered.isEmpty then min 65535 (s.survey.completed + 1) else s.survey.completed
          consecutive := if offered.isEmpty then 0 else s.survey.consecutive } ∧
        t.power = s.power ∧ t.time = s.time ∧ t.flow = s.flow ∧
        t.book = s.book ∧ t.params = s.params ∧ t.metro = s.metro ∧ t.store = s.store ∧ t.pending = s.pending ∧
        s.sameMeters t ∧ s.matrixFollows (fun _ => False) t ∧ s.curtailmentRaised t)

/-- Scaling (R24) and the interpolation of the Z table, the water table and the ratchet tables (R51, R113, R150): exact at
the ends, between neighbouring values within them, truncated toward zero. -/
def Obligations.ScalingAndInterpolation : Prop :=
  (∀ (low high : Int) (r : Nat), r ≤ 65535 →
    scale low high 0 = low ∧ scale low high 65535 = high ∧
    min low high ≤ scale low high r ∧ scale low high r ≤ max low high ∧
    65535 * (scale low high r - low) ≤ r * (high - low) ∧
    (r : Int) * (high - low) < 65535 * (scale low high r - low) + 65535) ∧
  (∀ (before after : List (Int × Int)) (a b : Int × Int) (x : Int),
    ascending ((before ++ a :: b :: after).map Prod.fst) = true → a.1 ≤ x → x < b.1 →
    let y := interpolate (before ++ a :: b :: after) x
    y = a.2 + ((b.2 - a.2) * (x - a.1)).tdiv (b.1 - a.1) ∧ min a.2 b.2 ≤ y ∧ y ≤ max a.2 b.2 ∧
    (x = a.1 → y = a.2)) ∧
  (∀ (a : Int × Int) (rest : List (Int × Int)) (x : Int), ascending ((a :: rest).map Prod.fst) = true → x < a.1 →
    interpolate (a :: rest) x = a.2) ∧
  (∀ (before : List (Int × Int)) (a : Int × Int) (x : Int), ascending ((before ++ [a]).map Prod.fst) = true →
    a.1 ≤ x → interpolate (before ++ [a]) x = a.2)

/-- A round of A samples (R33 to R35): with no success nothing is published; otherwise the value its mode reduces is, at
quality GOOD and age 0, with the alarm flags evaluated on it (R34, R37) and the round emptied, and the point then sits out K
times A passes. A round cut short publishes nothing. -/
def Obligations.RoundsReduce : Prop :=
  ∀ (c : PointConfig) (p : PointState) (xs : List (Option Int)), p.pos = 0 → p.okCount = 0 → 1 ≤ c.avg →
    let q := xs.foldl (fun w x => (w.sample c x).1) p
    let good := xs.filterMap id
    (xs.length < c.avg → q = { p with pos := xs.length, okCount := good.length, acc := q.acc }) ∧
    (xs.length = c.avg → good = [] → q = { p with pos := 0, okCount := 0, acc := 0, skip := 0 }) ∧
    (∀ v rest, xs.length = c.avg → good = v :: rest →
      let reduced : Int := match c.reduction with
        | .first => v
        | .min => rest.foldl min v
        | .max => rest.foldl max v
        | .mean => (v + rest.sum).fdiv (rest.length + 1)
      q = { value := reduced, quality := .good, age := 0, skip := c.skips * c.avg, pos := 0, okCount := 0, acc := 0,
            tag := p.tag, alarmHigh := highAfter c reduced p.alarmHigh, alarmLow := lowAfter c reduced p.alarmLow })

/-! ### The time base and the flow computer (chapter 3) -/

/-- One second (R57, R59, R60): nothing passes without the supply, the clock alone through a reset; a running SC6 counts the
second at the clock, at the age and quality of every point (R36, R37), at the timers of seconds (changeover, T_start and
T_cool (R85), the stop delay (R100), T_heat and T_tcool (R118)), at run seconds (R87) and at the timers of milliseconds, the
debounces (R128) among them; it evaluates every start-inhibited flag (R94), and the channels that read a flag which a change
of quality has moved, with POINT_ALARM for it (R38, R126); and it raises the hour event at a whole hour of a VALID clock and
at no other tick (that it stands raised until it is taken is the model's: notes/assumptions/23.md). A unit or tower timer
loses its second unless a trip that the tick brings discards it. At the clock's greatest value it becomes LOST, with its
interval cut, CLOCK_LOST raised at every port and nothing confirmed. A tick brings the elapsed time to its next whole second,
a timer of seconds loses a whole one at it, what the last instant left untaken is taken before it, and the counts of the tick
come before all else that is due at its second (the model's choices: notes/assumptions/7.md, 31.md, 28.md and 34.md). -/
def Obligations.ClockTick : Prop :=
  ∀ s : State,
    let next : Nat := if s.time.clock < 4294967295 then s.time.clock + 1 else s.time.clock
    let dies : Prop := s.time.lost = false ∧ 4294967295 ≤ s.time.clock
    (s.running = false → s.power.supply = false → exec .clockTick s = .next s.driveOutputs) ∧
    (s.running = false → s.power.supply = true →
      exec .clockTick s = .next
        ({ s with time := { s.time with clock := next,
                                        lost := s.time.lost || decide (4294967295 ≤ s.time.clock) } } :
          State).driveOutputs) ∧
    (s.running = true → exec .clockTick s = exec .clockTick s.takeUntaken) ∧
    (s.running = true → s.flow.untaken = [] →
      let d := 1000 - s.time.elapsedMs % 1000
      let waited : State := { s with prot := { s.prot with
        channels := s.prot.channels.map fun c => { c with timer := c.timer.map fun x => x - d } } }
      ∃ t, exec .clockTick s = .next t ∧
        let calm (r : RecordId) : Prop := t.prot.latched .site = s.prot.latched .site ∧ t.prot.latched r = s.prot.latched r
        t.power = s.power ∧ t.params = s.params ∧ t.metro = s.metro ∧ t.store = s.store ∧ t.pending = s.pending ∧
        t.time.clock = next ∧ t.time.elapsedMs = s.time.elapsedMs + d ∧
        t.survey = { s.survey with points := t.survey.points } ∧
        (∀ p : Fin 48, t.survey.points[p] = (s.survey.points[p]).aged s.params.points[p]) ∧
        t.link = { s.link with flight := s.link.flight.map fun f => { f with timer := f.timer.map fun x => x - d }
                               settle := s.link.settle.map fun x => x - d } ∧
        waited.matrixFollows (fun _ => False) t ∧ s.curtailmentRaised t ∧
        (∀ i : Fin 4,
          let u := s.duty.units[i]
          let v := t.duty.units[i]
          v.runSeconds = (if u.state = .running then min 4294967295 (u.runSeconds + 1) else u.runSeconds) ∧
          v.inhibited = (v.state == .stopped &&
            decide (s.params.duty.startLimit ≤ v.startLog.countP fun x => decide (next < x + 3600))) ∧
          (calm (.unit i) → u.state ≠ .stopped → (∀ q ∈ s.duty.queue, q.unit ≠ i) →
            v.state = u.state ∧ v.timer = (u.timer.map fun n => n - 1) ∧ v.startLog = u.startLog) ∧
          (¬calm (.unit i) → v.state = .tripped ∨ v.state = .outOfService)) ∧
        (∀ (k : Fin 2) (i : Fin 2),
          let w := s.dryer.trains[k].towers[i]
          ((s.dryer.trains[k]).state.isHeld = true → t.dryer.trains[k].towers[i] = w) ∧
          ((s.dryer.trains[k]).state.isHeld = false → w.regenerating = true → calm (.train k) →
            t.dryer.trains[k].towers[i] = { w with timer := w.timer.map fun n => n - 1 })) ∧
        t.move.wanted = s.move.wanted ∧
        (t.prot.latched .site = s.prot.latched .site → t.move.mode = s.move.mode ∧
          t.move.changeover = s.move.changeover.map fun c => { c with seconds := c.seconds - 1 }) ∧
        (¬dies →
          t.time = { s.time with clock := next, elapsedMs := s.time.elapsedMs + d, openTicks := s.time.openTicks + 1
                                 hourRaised := decide (s.time.lost = false ∧ next % 3600 = 0) } ∧
          t.flow = s.flow ∧ t.book = s.book ∧
          (∀ i : Fin 6, t.move.caverns[i].inventory = s.move.caverns[i].inventory ∧
            t.move.caverns[i].ring = s.move.caverns[i].ring) ∧
          ((∀ p : Fin 48, t.survey.points[p].quality = s.survey.points[p].quality) →
            t.prot = waited.prot ∧
            (∀ k : Fin 2, t.dryer.trains[k] = (s.dryer.trains[k]).second (s.trainEnv k)) ∧
            t.duty.stopDelay = (if t.duty.demand < t.duty.active t.dutyEnv then
                some ((s.duty.stopDelay.map fun n => n - 1).getD s.params.duty.tHold)
              else none))) ∧
        (dies →
          t.time.lost = true ∧ t.time.openStart = s.time.clock ∧ t.time.openTicks = 0 ∧ t.time.openShort = false ∧
          t.time.hourRaised = false ∧ (∀ p : Port, (t.ports.get p).causes.getLsbD 10 = true) ∧
          (∃ x, t.flow.log.getLast? = some (.interval x) ∧ x.kind = .short ∧ x.lost = true ∧
            x.endTime = s.time.clock ∧ x.length = s.time.openTicks + 1) ∧
          (∀ e ∈ t.nom.entries, e.confirmed = 0) ∧ t.nom.net = 0 ∧
          ∀ sm ∈ t.nom.summaries, sm = Summary.blank sm.hour))

/-- SET_CLOCK (R61, R62): a LOST clock takes any value and becomes VALID, with a placement and an AUTO evaluation; a VALID
one takes a step of at most 300 s within its hour. An accepted value cuts the open interval as SHORT unless it has no
ticks, opens one at the named value, and has every start-inhibited flag evaluated at it (R94). A changed confirmation raises
CURTAILMENT (R156): at a VALID clock by the flags, at a LOST one by the placement, where it finds every rate at 0 and the
placement comes before the AUTO evaluation. The operand that says which blocks take the record later is the model's
(notes/assumptions/28.md). -/
def Obligations.SetClock : Prop :=
  ∀ (r : Request) (w : Taking) (s : State) (v : Nat), s.takes .setClock r [(v : Int)] →
    let i : Instr := .setClock r w
    (s.time.lost = false → 300 < ((v : Int) - s.time.clock).natAbs ∨ v / 3600 ≠ s.time.clock / 3600 →
      exec i s = .next (answered r .setClock .refusedRange [] s)) ∧
    (s.time.lost = false → v = s.time.clock → exec i s = .next (answered r .setClock .ok [] s)) ∧
    (s.time.lost = true ∨
        (v ≠ s.time.clock ∧ ((v : Int) - s.time.clock).natAbs ≤ 300 ∧ v / 3600 = s.time.clock / 3600) →
      ∃ t, exec i s = .next t ∧ t.answers r .setClock .ok [] ∧
        t.time = { s.time with clock := v, lost := false, openStart := v, openTicks := 0, openShort := true } ∧
        t.power = s.power ∧ t.survey = s.survey ∧ t.link = s.link ∧ t.params = s.params ∧ t.metro = s.metro ∧
        t.store = s.store ∧ t.prot = s.prot ∧ t.pending = s.pending ∧
        (∀ u : Fin 4, t.duty.units[u].inhibited = (t.duty.units[u].state == .stopped &&
          decide (s.params.duty.startLimit ≤ t.duty.units[u].startLog.countP fun x => decide (v < x + 3600)))) ∧
        (s.time.openTicks = 0 → t.flow = s.flow ∧ t.book = s.book) ∧
        (s.time.openTicks ≠ 0 → t.flow.total = s.flow.nextSeq ∧
          ∃ x, t.flow.log.getLast? = some (.interval x) ∧ x.kind = .short ∧ x.endTime = s.time.clock ∧
            x.length = s.time.openTicks ∧ x.lost = s.time.lost ∧ x.mode = s.move.mode ∧
            t.flow.untaken = s.flow.untaken ++ (if anyReader w.later then [{ record := x, taking := w }] else []) ∧
            (w.later.book = true → t.book = s.book) ∧ (w.later.book = false → t.book.lastSeq = x.seq)) ∧
        (s.time.lost = false → t.move.mode = s.move.mode ∧ t.move.wanted = s.move.wanted ∧ s.curtailmentRaised t) ∧
        (s.time.lost = true → t.nom.current = v / 3600 ∧ t.nom.previous = none ∧
          (w.order = .movementLast ∨ s.params.siteControl = .manual → (∀ e ∈ s.nom.entries, e.confirmed = 0) →
            (∃ x ∈ t.nom.entries, x.state ≠ .requested ∧ x.confirmed ≠ 0) →
            t.ports.com.causes.getLsbD 5 = true ∧ t.ports.ops.causes.getLsbD 5 = true) ∧
          (s.params.siteControl = .auto → t.move.wanted = wantedBy false t.hourDirection) ∧
          (s.params.siteControl = .manual → t.move.mode = s.move.mode ∧ t.move.wanted = s.move.wanted)))

/-- The hour event (R60, R147, R152), taken once where the last tick has raised it, also behind a step of the clock taken
first at that tick, and at no other moment: the table rolls on to the clock's hour, the previous-hour copy keeps the rates
of the hour that has ended, every hour of the window is recomputed, and under AUTO the wanted mode follows the direction
published before or after the roll, by the order in which the two controllers take the event (R3, Table 1-1; the operand
that names it is the model's: notes/assumptions/6.md; so are the rates that a change of mode taken first leaves to the ended
hour, where one has ended, 11.md, and that a sender takes the event, 23.md). An entry that is FIRM or CURRENT then with
another confirmed rate than before has raised CURTAILMENT at COM and OPS (R156). -/
def Obligations.HourEvent : Prop :=
  ∀ (order : Order) (s : State),
    (s.running = false ∨ s.time.lost = true ∨ s.time.hourRaised = false →
      exec (.hourEvent order) s = .next s.driveOutputs) ∧
    (s.running = true → s.time.lost = false → s.time.hourRaised = true →
      let now := s.time.clock / 3600
      ∃ t, exec (.hourEvent order) s = .next t ∧
        t.power = s.power ∧ t.time = { s.time with hourRaised := false } ∧ t.survey = s.survey ∧ t.link = s.link ∧
        t.flow = s.flow ∧ t.book = s.book ∧ t.params = s.params ∧ t.metro = s.metro ∧ t.store = s.store ∧
        t.prot = s.prot ∧ t.pending = s.pending ∧
        t.nom.current = now ∧ t.nom.firm = max s.nom.firm (now + s.params.leadTime) ∧ t.nom.counter = s.nom.counter ∧
        t.nom.entries.map (fun e => (e.slot, e.hour, e.requested)) =
          (s.nom.entries.filter fun e => decide (now ≤ e.hour)).map (fun e => (e.slot, e.hour, e.requested)) ∧
        (∀ e ∈ t.nom.entries,
          e.state = (if e.hour = now then .current else if e.hour ≤ t.nom.firm then .firm else .requested) ∧
          e.clamped = clampRate s.params.ratchetInj s.params.ratchetWdr (slotOf s.book.slots e.slot) e.requested) ∧
        t.nom.net = (confirmedRates t.nom.entries now).sum ∧
        t.nom.summaries.map (·.hour) = (List.range 24).map (now + ·) ∧
        (order = .movementLast ∨ s.params.siteControl = .manual ∨ (s.nom.current ≠ now ∧ 1 ≤ now) →
          t.nom.previous = some { hour := now - 1
                                  rates := Vector.ofFn fun i => confirmedFor s.nom.entries (i.val + 1) (now - 1) }) ∧
        (entriesSound s.nom → order = .movementLast ∨ s.params.siteControl = .manual →
          (∃ x ∈ t.nom.entries, x.state ≠ .requested ∧
            ∃ y ∈ s.nom.entries, y.slot = x.slot ∧ y.hour = x.hour ∧ y.confirmed ≠ x.confirmed) →
          t.ports.com.causes.getLsbD 5 = true ∧ t.ports.ops.causes.getLsbD 5 = true) ∧
        (s.params.siteControl = .manual → t.move.mode = s.move.mode ∧ t.move.wanted = s.move.wanted) ∧
        (s.params.siteControl = .auto →
          t.move.wanted = wantedBy false (match order with
            | .movementFirst => s.hourDirection
            | .movementLast => t.hourDirection) ∧
          (t.move.mode, t.move.changeover) =
            table1_1 s.params.tChange s.move.mode s.move.changeover t.move.wanted))

/-- The pulse decoder (R41 to R43): a change of one input is a quarter-step forward or back, the fourth in a row counts a
cycle, a change of both is none, and each rising edge counts; during a reset the levels change and nothing is counted. -/
def Obligations.PulseDecoder : Prop :=
  ∀ (c : Fin 8) (a b : Bool) (s : State),
    let x := s.flow.channels[c]
    let put (y : PulseChannel) : Host.Outcome State Fault Refusal :=
      .next ({ s with flow := { s.flow with channels := s.flow.channels.set c y } } : State).driveOutputs
    let i : Instr := .pulseInputChange c a b
    (s.running = false → exec i s = put { x with a := a, b := b }) ∧
    (s.running = true → -3 ≤ x.pos → x.pos ≤ 3 →
      x.fwd < 4294967295 → x.rev < 4294967295 → x.nA < 4294967295 → x.nB < 4294967295 →
      let edges : PulseChannel :=
        { x with a := a, b := b, nA := x.nA + (if a = true ∧ x.a = false then 1 else 0),
                 nB := x.nB + (if b = true ∧ x.b = false then 1 else 0) }
      (nextLevels (x.a, x.b) = (a, b) →
        exec i s = put (if x.pos = 3 then { edges with pos := 0, fwd := x.fwd + 1 }
          else { edges with pos := x.pos + 1 })) ∧
      (nextLevels (a, b) = (x.a, x.b) →
        exec i s = put (if x.pos = -3 then { edges with pos := 0, rev := x.rev + 1 }
          else { edges with pos := x.pos - 1 })) ∧
      ((a = x.a ∧ b = x.b) ∨ (a ≠ x.a ∧ b ≠ x.b) → exec i s = put edges))

/-- The close of the open interval (R58, R59, R63 to R66) at a whole minute that a VALID clock has run into, or 60 ticks after
the opening while it is LOST, and at no other moment: one record, entered as the newest, whose fields are those of the
open interval and its channels; the counts start afresh, the residues and the cycle position are carried; and the blocks
act on the record (R16 to R18, R113, R167), a gas day closed by it raising DAY_CLOSED at COM (R180) and a changed
confirmation CURTAILMENT (R156), at once or, as the operand names them, later: then the record stands untaken,
and they act on it as the state is when they take it (the model's choice: notes/assumptions/28.md). That a close brought at
any other moment has no effect, and one not brought at its tick is lost, is the model's choice (23.md). -/
def Obligations.IntervalClose : Prop :=
  (∀ (w : Taking) (s : State),
    let due : Prop := s.time.openTicks ≠ 0 ∧ (if s.time.lost = true then s.time.openTicks = 60 else s.time.clock % 60 = 0)
    (s.running = false ∨ ¬due → exec (.intervalClose w) s = .next s.driveOutputs) ∧
    (s.running = true → due →
      ∃ (t : State) (x : IntervalRecord), exec (.intervalClose w) s = .next t ∧
        t.power = s.power ∧ t.survey = s.survey ∧ t.link = s.link ∧ t.params = s.params ∧ t.metro = s.metro ∧
        t.store = s.store ∧ t.prot = s.prot ∧ t.pending = s.pending ∧
        t.move.mode = s.move.mode ∧ t.move.wanted = s.move.wanted ∧ t.move.changeover = s.move.changeover ∧
        t.time = { s.time with openStart := s.time.clock, openTicks := 0, openShort := false } ∧
        t.flow.log = s.flow.log.drop (s.flow.log.length - 1439) ++ [.interval x] ∧
        t.flow.untaken = s.flow.untaken ++ (if anyReader w.later then [{ record := x, taking := w }] else []) ∧
        (s.flow.total < 4294967295 → t.flow.total = s.flow.total + 1 ∧ x.seq = s.flow.total + 1) ∧
        x.kind = (if s.time.openShort then .short else .normal) ∧ x.endTime = s.time.clock ∧
        x.length = s.time.openTicks ∧ x.mode = s.move.mode ∧ x.lost = s.time.lost ∧
        (∀ c : Fin 8,
          let y := closeChannel s.metro s.params.cv s.move.mode s.survey.points c s.flow.channels[c]
          x.channels[c] = y.1 ∧ t.flow.channels[c] = y.2 ∧
          y.2 = { s.flow.channels[c] with fwd := 0, rev := 0, nA := 0, nB := 0, volFwd := y.2.volFwd,
                                          volRev := y.2.volRev, enFwd := y.2.enFwd, enRev := y.2.enRev }) ∧
        x.eNet = ((List.finRange 6).map fun c => x.channels[(c.castAdd 2 : Fin 8)].energy).sum ∧
        x.eFuel = x.channels[6].energy ∧ x.eRegen = x.channels[7].energy ∧
        x.withdrawal = ((List.finRange 6).map fun c => x.channels[(c.castAdd 2 : Fin 8)].volRev).sum ∧
        s.takenBy w.order (otherReaders w.later) x t ∧ s.curtailmentRaised t ∧
        (t.ports.met.causes.getLsbD 8 = (s.ports.met.causes.getLsbD 8 || x.raisesQuality)) ∧
        (t.ports.ops.causes.getLsbD 8 = (s.ports.ops.causes.getLsbD 8 || x.raisesQuality)))) ∧
  (∀ s : State,
    (s.flow.untaken = [] → s.takeUntaken = s) ∧
    (∀ u, s.flow.untaken = [u] →
      let t := s.takeUntaken
      s.takenBy u.taking.order u.taking.later u.record t ∧ t.flow = { s.flow with untaken := [] } ∧
      t.power = s.power ∧ t.time = s.time ∧ t.survey = s.survey ∧ t.link = s.link ∧ t.params = s.params ∧
      t.metro = s.metro ∧ t.store = s.store ∧ t.prot = s.prot ∧ t.pending = s.pending ∧
      t.move.mode = s.move.mode ∧ t.move.wanted = s.move.wanted ∧ t.move.changeover = s.move.changeover))

/-- The classification and the five stages at a close (R44, R45, R50 to R56): the counts a channel takes, the factor F from
the substituted and clamped pressure and temperature, the volumes, energies and residues of both directions, and every
flag; an uncalibrated channel enters nothing but NOT_CALIBRATED. -/
def Obligations.FlowComputation : Prop :=
  ∀ (m : Metrology) (cv : Nat) (mode : SiteMode) (points : Vector PointState 48) (i : Fin 8) (c : PulseChannel),
    let x := closeChannel m cv mode points i c
    let r := x.1
    let cleared : PulseChannel := { c with fwd := 0, rev := 0, nA := 0, nB := 0 }
    let calibrated : Prop := m.valid = true ∨ m.calibrated.getLsbD i.val = true
    (¬calibrated →
      r = { fwd := 0, rev := 0, volFwd := 0, volRev := 0, energy := 0, flags := 1024#11 } ∧ x.2 = cleared) ∧
    (calibrated → 1 ≤ m.params.singleMin → 0 < m.params.channels[i].kp → 0 < m.params.pb →
        (∀ z : Fin 8, 0 < m.params.z[z].2) → ascending (m.params.z.toList.map Prod.fst) = true →
      let k := m.params.channels[i]
      let cavern : Prop := i.val < 6
      let twin : Prop := 1 ≤ c.nA ∧ 1 ≤ c.nB
      let onlyA : Prop := c.nB = 0 ∧ m.params.singleMin ≤ c.nA
      let onlyB : Prop := c.nA = 0 ∧ m.params.singleMin ≤ c.nB
      let p := points[k.pPoint]
      let t := points[k.tPoint]
      let bad (q : PointState) : Prop := q.quality = .failed ∨ q.quality = .unknown
      let inP : Int := if bad p then k.pFallback else p.value
      let inT : Int := if bad t then k.tFallback else t.value
      let usedP : Int := max 50000 (min 30000000 inP)
      let usedT : Int := max 23315 (min 37315 inT)
      let num : Int := usedP * m.params.tb * 1000000000000
      let den : Int := m.params.pb * usedT * interpolate m.params.z.toList usedP
      let moved : Prop := 0 < r.fwd ∨ 0 < r.rev
      (¬onlyA → ¬onlyB → r.fwd = c.fwd ∧ r.rev = if cavern then c.rev else 0) ∧
      (∀ n, (onlyA ∧ n = c.nA) ∨ (onlyB ∧ n = c.nB) →
        (cavern → mode = .withdraw → r.fwd = 0 ∧ r.rev = n) ∧ (¬cavern ∨ mode ≠ .withdraw → r.fwd = n ∧ r.rev = 0)) ∧
      (∃ raw f : Nat, 2 * num < den * (2 * raw + 1) ∧ den * (2 * raw) ≤ 2 * num + den ∧
        f = max 100000 (min 400000000 raw) ∧
        r.volFwd = (r.fwd * f + c.volFwd) / k.kp ∧ r.volRev = (r.rev * f + c.volRev) / k.kp ∧
        r.energy = (((r.volFwd * cv + c.enFwd) / 3600 : Nat) : Int) - ((r.volRev * cv + c.enRev) / 3600 : Nat) ∧
        x.2 = { cleared with volFwd := (r.fwd * f + c.volFwd) % k.kp, volRev := (r.rev * f + c.volRev) % k.kp,
                             enFwd := (r.volFwd * cv + c.enFwd) % 3600, enRev := (r.volRev * cv + c.enRev) % 3600 } ∧
        (r.flags.getLsbD 9 = true ↔ moved ∧ (usedP ≠ inP ∨ usedT ≠ inT ∨ f ≠ raw))) ∧
      (r.flags.getLsbD 0 = true ↔ twin ∧ m.params.phaseTol < ((c.nA : Int) - c.nB).natAbs) ∧
      (r.flags.getLsbD 1 = true ↔ onlyA) ∧ (r.flags.getLsbD 2 = true ↔ onlyB) ∧
      (r.flags.getLsbD 3 = true ↔ cavern ∧ (onlyA ∨ onlyB) ∧ mode ≠ .inject ∧ mode ≠ .withdraw) ∧
      (r.flags.getLsbD 4 = true ↔ ¬cavern ∧ ¬onlyA ∧ ¬onlyB ∧ 0 < c.rev) ∧
      (r.flags.getLsbD 5 = true ↔ moved ∧ p.quality = .held) ∧ (r.flags.getLsbD 6 = true ↔ moved ∧ t.quality = .held) ∧
      (r.flags.getLsbD 7 = true ↔ moved ∧ bad p) ∧ (r.flags.getLsbD 8 = true ↔ moved ∧ bad t) ∧
      r.flags.getLsbD 10 = false)

/-- R53: stage 4 keeps every part of a litre; over any run of intervals of one direction the residues account for the
difference between the sum of V and the exact conversion, which is less than one std litre. -/
def Obligations.ConversionFold : Prop :=
  (∀ kp cv f n volRes enRes : Nat, 0 < kp →
    let c := convert kp cv f n volRes enRes
    kp * c.volume + c.volRes = n * f + volRes ∧ c.volRes < kp ∧
    3600 * c.energy + c.enRes = c.volume * cv + enRes ∧ c.enRes < 3600) ∧
  (∀ (kp cv : Nat) (runs : List (Nat × Nat)) (volRes enRes : Nat), 0 < kp → volRes < kp → enRes < 3600 →
    let x := convertRun kp cv runs (volRes, enRes)
    let exact := (runs.map fun r => r.1 * r.2).sum
    kp * x.1.1 + x.2.1 = exact + volRes ∧ x.2.1 < kp ∧
    exact < kp * (x.1.1 + 1) ∧ kp * x.1.1 < exact + kp ∧
    3600 * x.1.2 + x.2.2 = x.1.1 * cv + enRes ∧ x.2.2 < 3600)

/-! ### Gas drying: loading and the switch (chapter 6) -/

/-- Water loading (R113, R114): only a record closed in WITHDRAW loads, the drying trains share its volume, with none it
is untreated, and each drying train's ADSORBING tower takes its share at the train's water content and is then evaluated;
a second of drying is an adsorption second, and the tower timer of a HEATING or COOLING tower loses one at it, of a drying
train and of a STANDBY one (R118; a whole one, also where it was started since the last second: the model's choice,
notes/assumptions/31.md), and stands while its train is TRIPPED or OUT_OF_SERVICE (R119). The switch demand (R115): where it
holds, the switch is made into a READY partner, and switch-pending set beside any other; where it does not hold,
switch-pending is cleared. -/
def Obligations.DryerLoading : Prop :=
  (∀ (x : IntervalRecord) (s : State), TrainInv s →
    let t := s.dryerTakes x
    let drying (k : Fin 2) : Bool := (s.dryer.trains[k]).state.isDrying
    let l := x.withdrawal
    (x.mode ≠ .withdraw → t = s) ∧
    (x.mode = .withdraw → drying 0 = false → drying 1 = false →
      t = { s with dryer := { s.dryer with untreated := u64 (s.dryer.untreated + l) } }) ∧
    (x.mode = .withdraw → ∀ k : Fin 2, drying k = true →
      let share := if drying 0 = true ∧ drying 1 = true then (if k = 0 then l / 2 + l % 2 else l / 2) else l
      let p := s.params.trains[k]
      let inlet := s.survey.points[p.inlet]
      let w := waterContent p inlet.quality inlet.value
      t.dryer.untreated = s.dryer.untreated ∧
      ∃ i : Fin 2, s.dryer.trains[k].towers[i].state = .adsorbing ∧
        t.dryer.trains[k] =
          ((s.dryer.trains[k]).setTower i { s.dryer.trains[k].towers[i] with
            loading := min 18446744073709551615 (s.dryer.trains[k].towers[i].loading + share * w.toNat / 1000) }).evalSwitch
            (s.trainEnv k)) ∧
    (∀ k : Fin 2, drying k = false → t.dryer.trains[k] = s.dryer.trains[k])) ∧
  (∀ (p : TrainParams) (q : Quality) (v : Int),
    (q = .good ∨ q = .held → waterContent p q v = interpolate p.water.toList v) ∧
    (q = .failed ∨ q = .unknown → (∀ k : Fin 8, 0 ≤ p.water[k].2) →
      (∀ k : Fin 8, p.water[k].2 ≤ waterContent p q v) ∧ ∃ k : Fin 8, waterContent p q v = p.water[k].2)) ∧
  (∀ (e : TrainEnv) (t : Train) (i : Fin 2),
    (t.state.isDrying = true → t.sound → t.towers[i].state = .adsorbing →
      (t.second e).towers[i].adsSeconds = min 4294967295 (t.towers[i].adsSeconds + 1)) ∧
    (t.state.isDrying = false → (t.second e).towers[i].adsSeconds = t.towers[i].adsSeconds) ∧
    (t.state.isHeld = true → t.second e = t) ∧
    (t.state = .standby → (t.second e).towers[i].timer = t.towers[i].timer.map fun n => n - 1) ∧
    (t.state.isHeld = false → t.towers[i].regenerating = true →
      (t.second e).towers[i] = { t.towers[i] with timer := t.towers[i].timer.map fun n => n - 1 })) ∧
  (∀ (e : TrainEnv) (t : Train) (i : Fin 2), t.sound → t.state.isDrying = true → t.towers[i].state = .adsorbing →
    let w := t.towers[i]
    let demand : Prop := e.params.capacity * 1000000 ≤ w.loading ∨ e.dryer.maxAds ≤ w.adsSeconds ∨ t.dewHigh = true
    let n := t.evalSwitch e
    (¬demand → n = t.setTower i { w with pending := false }) ∧
    (demand → t.towers[partner i].state ≠ .ready → n = t.setTower i { w with pending := true }) ∧
    (demand → t.towers[partner i].state = .ready →
      n.state = t.state ∧ n.dewHigh = false ∧
      n.towers[i] = { w with state := .heating, pending := false, timer := some e.dryer.tHeat } ∧
      n.towers[partner i] =
        { t.towers[partner i] with state := .adsorbing, adsSeconds := 0, pending := false, timer := none }))

/-! ### Site movement and caverns (chapter 1) -/

/-- SET_SITE_CONTROL (R1 to R3): AUTO and MANUAL are taken in every site mode and stored; any other value is refused; a
change to AUTO sets the wanted mode from the published direction and applies it, and nothing else moves the site; a change
of mode acts at units and trains (R91, R101, R109).
CHANGEOVER_EXPIRY (R7, R8): the site reaches its target and the timer is gone; under AUTO the wanted mode is then set
afresh from the published direction and applied. It does nothing where no changeover runs or its timer has not run out,
one just started by another event among them (acting late is the model's choice: notes/assumptions/4.md). -/
def Obligations.AutoEvaluation : Prop :=
  (∀ (r : Request) (s : State) (v : Int), s.takes .setSiteControl r [v] →
      let withControl (c : Control) : OpParams := { s.params with siteControl := c }
      let stored (c : Control) : State :=
        { s with params := withControl c
                 store := { s.store with opImage := some (opImage (withControl c)), opValid := true } }
      (v ≠ 0 → v ≠ 1 → exec (.setSiteControl r) s = .next (answered r .setSiteControl .refusedRange [] s)) ∧
      (v = 1 → exec (.setSiteControl r) s = .next (answered r .setSiteControl .ok [] (stored .manual))) ∧
      (v = 0 → s.params.siteControl = .auto →
        exec (.setSiteControl r) s = .next (answered r .setSiteControl .ok [] (stored .auto))) ∧
      (v = 0 → s.params.siteControl = .manual →
        ∃ t, exec (.setSiteControl r) s = .next t ∧ t.answers r .setSiteControl .ok [] ∧
          (stored .auto).settled (some r.port) t ∧ (stored .auto).modeFollows t ∧ t.prot = s.prot ∧
          t.move.wanted = wantedBy s.time.lost s.hourDirection ∧
          (t.move.mode, t.move.changeover) = table1_1 s.params.tChange s.move.mode s.move.changeover t.move.wanted)) ∧
  (∀ s : State,
      (s.running = false ∨ s.move.mode ≠ .changeover ∨ s.move.changeover = none ∨
          (∃ c, s.move.changeover = some c ∧ c.seconds ≠ 0) →
        exec .changeoverExpiry s = .next s.driveOutputs) ∧
      (∀ c, s.running = true → s.move.mode = .changeover → s.move.changeover = some c → c.seconds = 0 →
        ∃ t, exec .changeoverExpiry s = .next t ∧ s.settled none t ∧ t.prot = s.prot ∧
          (s.params.siteControl = .manual →
            t.move.mode = c.target.mode ∧ t.move.changeover = none ∧ t.move.wanted = s.move.wanted ∧ s.modeFollows t) ∧
          (s.params.siteControl = .auto →
            t.move.wanted = wantedBy s.time.lost t.hourDirection ∧
            (t.move.mode, t.move.changeover) = table1_1 s.params.tChange c.target.mode none t.move.wanted)))

/-- R4: SET_SITE_MODE by its table, the wanted mode applied by Table 1-1. A change of mode re-forms the effective
capacities (R142) and derives the trains afresh (R109), and entry to CHANGEOVER leaves no cavern FLOWING, no unit STARTING or
RUNNING, nothing queued and no train drying (R6, R101): a unit that was STARTING or RUNNING cools down for T_cool, and any
other is as it was (R91). -/
def Obligations.SetSiteMode : Prop :=
  ∀ (r : Request) (s : State) (v : Int), s.takes .setSiteMode r [v] →
    let i : Instr := .setSiteMode r
    (v ≠ 0 → v ≠ 1 → v ≠ 2 → exec i s = .next (answered r .setSiteMode .refusedRange [] s)) ∧
    (v = 0 ∨ v = 1 ∨ v = 2 → s.params.siteControl = .auto ∨ s.move.mode = .shutdown →
      exec i s = .next (answered r .setSiteMode .refusedState [] s)) ∧
    (∀ w : Wanted, (v, w) ∈ [((0 : Int), Wanted.hold), (1, .inject), (2, .withdraw)] →
      s.params.siteControl = .manual → s.move.mode ≠ .shutdown →
      ∃ t, exec i s = .next t ∧ t.answers r .setSiteMode .ok [] ∧ s.settled (some r.port) t ∧ t.prot = s.prot ∧
        t.move.wanted = w ∧
        (t.move.mode, t.move.changeover) = table1_1 s.params.tChange s.move.mode s.move.changeover w ∧
        s.modeFollows t ∧
        (t.move.mode ≠ s.move.mode →
          t.nom.injEff = (if t.move.mode = .inject then t.nom.injPot else 0) ∧
          t.nom.wdrEff = (if t.move.mode = .withdraw then t.nom.wdrPot else 0)) ∧
        (t.move.mode = .changeover → s.move.mode ≠ .changeover →
          (∀ c : Fin 6, t.move.caverns[c].state ≠ .flowing ∧ t.out.permissive[c] = false) ∧
          (∀ u : Fin 4, t.duty.units[u].state ≠ .starting ∧ t.duty.units[u].state ≠ .running ∧ t.out.run[u] = false) ∧
          t.duty.queue = [] ∧ t.duty.stopDelay = none ∧
          ∀ k : Fin 2, (t.dryer.trains[k]).state.isDrying = false))

/-- The tables from which the site's derived state is formed, line by line: a cavern's availability in each direction (R14, by
the sources of LINK_LOST and P_UNKNOWN, R13), its contribution with and without RESTRICTED (R14), its state (R12), the boost
decision (R19), the start-inhibited flag (R94), the availability of a unit (R95) and of a train (R111), the potential and
effective figures (R141, R142) and the published hour direction (R152). -/
def Obligations.CavernAndCapacityTables : Prop :=
  ∀ s : State,
    (∀ i : Fin 6,
      let k := s.params.caverns[i]
      let p := s.survey.points[k.point]
      let latched : Prop := s.prot.latched .site = true ∨ s.prot.latched (.cavern i) = true
      let usable : Prop := k.enabled = true ∧ ¬latched ∧ s.link.health[i].health ≠ .down ∧
        (p.quality = .good ∨ p.quality = .held)
      let flows : Prop :=
        (s.move.mode = .inject ∧ s.availInj i = true) ∨ (s.move.mode = .withdraw ∧ s.availWdr i = true)
      let halved (rating : Nat) : Nat := if s.move.caverns[i].restricted = true then rating / 2 else rating
      (s.availInj i = true ↔ usable ∧ p.value < k.pMax) ∧
      (s.availWdr i = true ↔ usable ∧ k.pMin < p.value) ∧
      s.injContribution i = (if s.availInj i = true then halved k.injRating else 0) ∧
      s.wdrContribution i = (if s.availWdr i = true then halved k.wdrRating else 0) ∧
      (k.enabled = false → s.cavernState i = .disabled) ∧
      (k.enabled = true → latched → s.cavernState i = .tripped) ∧
      (k.enabled = true → ¬latched → flows → s.cavernState i = .flowing) ∧
      (k.enabled = true → ¬latched → ¬flows → s.cavernState i = .idle)) ∧
    (let pipe := s.survey.points[s.params.pipelinePoint]
     let bad : Prop := pipe.quality = .failed ∨ pipe.quality = .unknown
     ((∀ i, s.availWdr i = false) → s.boostRequired = false) ∧
     (∀ i, s.availWdr i = true → bad → s.boostRequired = true) ∧
     (∀ i, s.availWdr i = true → ¬bad → (s.boostRequired = true ↔
       ∃ j, s.availWdr j = true ∧ s.survey.points[s.params.caverns[j].point].value < pipe.value + s.params.boostMargin))) ∧
    (∀ i : Fin 4,
      let u := s.duty.units[i]
      let recent := u.startLog.countP fun x => decide (s.time.clock < x + 3600)
      s.evalInhibit.duty.units[i] =
        { u with inhibited := (u.state == .stopped && decide (s.params.duty.startLimit ≤ recent)) } ∧
      (u.available = true ↔ (u.state = .stopped ∧ u.inhibited = false) ∨ u.state = .starting ∨ u.state = .running)) ∧
    (∀ k : Fin 2,
      let x := s.dryer.trains[k]
      x.available = true ↔ (x.state = .standby ∨ x.state = .inService) ∧
        ∃ i : Fin 2, x.towers[i].state = .adsorbing ∨ x.towers[i].state = .ready) ∧
    (let units := ((List.finRange 4).map fun i =>
        if (s.duty.units[i]).available = true then s.params.units[i].rating else 0).sum
     let trains := ((List.finRange 2).map fun k =>
        if (s.dryer.trains[k]).available = true then s.params.trains[k].rating else 0).sum
     let inj := min ((List.finRange 6).map fun i => s.injContribution i).sum units
     let wdr := min ((List.finRange 6).map fun i => s.wdrContribution i).sum
       (if s.boostRequired = true then min trains units else trains)
     s.figures = (inj, wdr, if s.move.mode = .inject then inj else 0, if s.move.mode = .withdraw then wdr else 0)) ∧
    (s.time.lost = true → s.hourDirection = 0) ∧
    ((∀ sm ∈ s.nom.summaries, sm.hour ≠ s.time.clock / 3600) → s.hourDirection = 0) ∧
    (∀ sm ∈ s.nom.summaries, s.time.lost = false → sm.hour = s.time.clock / 3600 → (s.nom.summaries.map (·.hour)).Nodup →
      s.hourDirection = sm.direction)

/-- SET_CAVERN, SET_PIPELINE and SET_CAVERN_INVENTORY (R16, R18, R20, R21): the ranges of Table 1-3, a refusal that
changes nothing, the new values in force and stored, the caverns and the boost decision derived afresh, the ring emptied
by a new pressure point alone, and the inventory preset. -/
def Obligations.CavernRequests : Prop :=
  (∀ cavern inService point pMin pMax rate inj wdr : Int,
    (cavernArgs [cavern, inService, point, pMin, pMax, rate, inj, wdr]).isSome = true ↔
      (0 ≤ cavern ∧ cavern ≤ 5) ∧ (inService = 0 ∨ inService = 1) ∧ (0 ≤ point ∧ point ≤ 47) ∧
      (100000 ≤ pMin ∧ pMin ≤ 30000000) ∧ (100000 ≤ pMax ∧ pMax ≤ 30000000) ∧ pMin < pMax ∧
      (10000 ≤ rate ∧ rate ≤ 5000000) ∧ (0 ≤ inj ∧ inj ≤ 4000000000) ∧ (0 ≤ wdr ∧ wdr ≤ 4000000000)) ∧
  (∀ (r : Request) (s : State) (args : List Int), s.takes .setCavern r args →
    (cavernArgs args = none → exec (.setCavern r) s = .next (answered r .setCavern .refusedRange [] s)) ∧
    (∀ i c, cavernArgs args = some (i, c) →
      let q : OpParams := { s.params with caverns := s.params.caverns.set i c }
      ∃ t, exec (.setCavern r) s = .next t ∧ t.answers r .setCavern .ok [] ∧ t.params = q ∧
        t.store = { s.store with opImage := some (opImage q), opValid := true } ∧
        t.power = s.power ∧ t.time = s.time ∧ t.survey = s.survey ∧ t.link = s.link ∧ t.flow = s.flow ∧
        t.book = s.book ∧ t.metro = s.metro ∧ t.prot = s.prot ∧ t.dryer = s.dryer ∧ t.pending = s.pending ∧
        t.move.mode = s.move.mode ∧ t.move.wanted = s.move.wanted ∧ t.move.changeover = s.move.changeover ∧
        t.move.boost = t.boostRequired ∧
        ∀ j : Fin 6, t.move.caverns[j].state = t.cavernState j ∧
          t.move.caverns[j].inventory = s.move.caverns[j].inventory ∧
          (j = i → c.point ≠ s.params.caverns[i].point →
            t.move.caverns[j].ring = [] ∧ t.move.caverns[j].restricted = false) ∧
          (j ≠ i ∨ c.point = s.params.caverns[i].point →
            t.move.caverns[j].ring = s.move.caverns[j].ring ∧
            t.move.caverns[j].restricted = s.move.caverns[j].restricted))) ∧
  (∀ (r : Request) (s : State) (point margin : Int), s.takes .setPipeline r [point, margin] →
    (point < 0 ∨ 47 < point ∨ margin < 0 ∨ 2000000 < margin →
      exec (.setPipeline r) s = .next (answered r .setPipeline .refusedRange [] s)) ∧
    (∀ p : Fin 48, point = p.val → 0 ≤ margin → margin ≤ 2000000 →
      let q : OpParams := { s.params with pipelinePoint := p, boostMargin := margin }
      let stored : State :=
        { s with params := q, store := { s.store with opImage := some (opImage q), opValid := true } }
      ∃ t, exec (.setPipeline r) s = .next t ∧ t.answers r .setPipeline .ok [] ∧ stored.rederived (some r.port) t ∧
        t.move.boost = t.boostRequired)) ∧
  (∀ (r : Request) (s : State) (cavern wh : Int), s.takes .setCavernInventory r [cavern, wh] →
    (cavern < 0 ∨ 5 < cavern →
      exec (.setCavernInventory r) s = .next (answered r .setCavernInventory .refusedRange [] s)) ∧
    (∀ i : Fin 6, cavern = i.val →
      exec (.setCavernInventory r) s = .next (answered r .setCavernInventory .ok []
        { s with move := { s.move with
            caverns := s.move.caverns.set i { s.move.caverns[i] with inventory := wh } } })))

/-! ### Parameters and counts set alone -/

/-- The requests that set one value: SET_CHANGEOVER_TIME (R6), SET_SURVEY_PERIOD (R27), SET_CV (R49), SET_RUN_SECONDS (R87),
SET_LINE_RATE (R191), SET_LEAD_TIME (R144) and RESET_ENTRY_COUNTER (R146). Outside its range each is refused and changes
nothing, but SET_SURVEY_PERIOD, which is always accepted, its value clamped; within it the value is in force, a parameter is
stored, the grid of passes anchored afresh by its period, and nothing else changes. The current hour that a lead time counts
from is the one the table follows (the model's choice: notes/assumptions/11.md). -/
def Obligations.ParameterSettings : Prop :=
  ∀ (r : Request) (s : State),
    let stored (q : OpParams) : State :=
      { s with params := q, store := { s.store with opImage := some (opImage q), opValid := true } }
    (∀ v : Nat, s.takes .setChangeoverTime r [(v : Int)] →
      exec (.setChangeoverTime r) s = .next
        (if 300 ≤ v ∧ v ≤ 3600 then answered r .setChangeoverTime .ok [] (stored { s.params with tChange := v })
         else answered r .setChangeoverTime .refusedRange [] s)) ∧
    (∀ v : Nat, s.takes .setSurveyPeriod r [(v : Int)] →
      let taken := if v < 250 then 250 else if 60000 < v then 60000 else v
      let inRange := 250 ≤ v ∧ v ≤ 60000
      exec (.setSurveyPeriod r) s = .next
        (answered r .setSurveyPeriod (if inRange then .ok else .okClamped) (if inRange then [] else be 4 taken)
          { stored { s.params with surveyPeriod := taken } with
            survey := { s.survey with nextDue := s.time.elapsedMs + taken } })) ∧
    (∀ v : Nat, s.takes .setCv r [(v : Int)] →
      exec (.setCv r) s = .next
        (if 30000 ≤ v ∧ v ≤ 45000 then answered r .setCv .ok [] (stored { s.params with cv := v })
         else answered r .setCv .refusedRange [] s)) ∧
    (∀ (u : Int) (v : Nat), s.takes .setRunSeconds r [u, (v : Int)] →
      (u < 0 ∨ 3 < u → exec (.setRunSeconds r) s = .next (answered r .setRunSeconds .refusedRange [] s)) ∧
      (∀ i : Fin 4, u = i.val →
        exec (.setRunSeconds r) s = .next (answered r .setRunSeconds .ok []
          { s with duty := { s.duty with
              units := s.duty.units.set i { s.duty.units[i] with runSeconds := v } } }))) ∧
    (∀ (p : Int) (v : Nat), s.takes .setLineRate r [p, (v : Int)] →
      let legal := v ∈ [9600, 19200, 38400, 57600, 115200, 230400, 460800]
      (p < 0 ∨ 2 < p ∨ ¬legal → exec (.setLineRate r) s = .next (answered r .setLineRate .refusedRange [] s)) ∧
      (p = 0 → legal → exec (.setLineRate r) s =
        .next (answered r .setLineRate .ok [] (stored { s.params with rateOps := v }))) ∧
      (p = 1 → legal → exec (.setLineRate r) s =
        .next (answered r .setLineRate .ok [] (stored { s.params with rateCom := v }))) ∧
      (p = 2 → legal → exec (.setLineRate r) s =
        .next (answered r .setLineRate .ok [] (stored { s.params with rateMet := v })))) ∧
    (∀ v : Nat, s.takes .setLeadTime r [(v : Int)] →
      let kept := stored { s.params with leadTime := v }
      let firm := max s.nom.firm (s.nom.current + v)
      exec (.setLeadTime r) s = .next
        (if 1 ≤ v ∧ v ≤ 6 then
          answered r .setLeadTime .ok []
            (if s.time.lost = true then kept
             else { kept with nom := { s.nom with
                firm := firm
                entries := s.nom.entries.map fun e =>
                  { e with state := if e.hour = s.nom.current then .current
                                    else if e.hour ≤ firm then .firm else .requested } } })
         else answered r .setLeadTime .refusedRange [] s)) ∧
    (s.takes .resetEntryCounter r [] →
      exec (.resetEntryCounter r) s = .next
        (answered r .resetEntryCounter .ok (be 4 s.nom.counter) { s with nom := { s.nom with counter := 0 } }))

/-! ### Compressor duty (chapter 5) -/

/-- START_UNIT and STOP_UNIT (R88, R91, R102, R103): START_UNIT by its table, an accepted unit going to STARTING or RUNNING
or waiting in the queue at its level, and started at once with its start logged where it is alone; STOP_UNIT puts a
STARTING or RUNNING unit into COOLDOWN, takes a MANUAL one out of the queue, and leaves any other state as it is. -/
def Obligations.UnitRequests : Prop :=
  ∀ (r : Request) (s : State),
    (∀ u l : Int, s.takes .startUnit r [u, l] →
      (u < 0 ∨ 3 < u ∨ l < 1 ∨ 15 < l →
        exec (.startUnit r) s = .next (answered r .startUnit .refusedRange [] s)) ∧
      (∀ (i : Fin 4) (level : Nat), u = i.val → l = level → 1 ≤ level → level ≤ 15 →
        (s.params.units[i].source = .auto ∨ s.move.mode = .changeover ∨ s.move.mode = .shutdown ∨
            s.duty.units[i].state ≠ .stopped →
          exec (.startUnit r) s = .next (answered r .startUnit .refusedState [] s)) ∧
        (s.params.units[i].source = .manual → s.move.mode ≠ .changeover → s.move.mode ≠ .shutdown →
            s.duty.units[i].state = .stopped → UnitInv s →
          ∃ t, exec (.startUnit r) s = .next t ∧ t.answers r .startUnit .ok [] ∧ s.rederived (some r.port) t ∧
            (t.duty.units[i].state = .starting ∨ t.duty.units[i].state = .running ∨
              (t.duty.units[i].state = .stopped ∧ { unit := i, kind := .manual, level := level } ∈ t.duty.queue)) ∧
            ((∀ j : Fin 4, s.params.units[j].source = .manual ∧ s.duty.units[j].state ≠ .starting) →
                s.duty.queue = [] →
                recentStarts s.time.clock s.duty.units[i].startLog < s.params.duty.startLimit →
              let log := s.duty.units[i].startLog
              t.duty.queue = [] ∧
              t.duty.units[i] = { s.duty.units[i] with
                state := if s.duty.units[i].feedback = true then .running else .starting
                timer := if s.duty.units[i].feedback = true then none else some s.params.duty.tStart
                inhibited := false
                startLog := log.drop (log.length - 5) ++ [s.time.clock] } ∧
              (t.out.run[i] = true ↔ s.prot.latched .site = false ∧ s.prot.latched (.unit i) = false))))) ∧
    (∀ u : Int, s.takes .stopUnit r [u] →
      (u < 0 ∨ 3 < u → exec (.stopUnit r) s = .next (answered r .stopUnit .refusedRange [] s)) ∧
      (∀ i : Fin 4, u = i.val →
        let old := s.duty.units[i]
        ∃ t, exec (.stopUnit r) s = .next t ∧ t.answers r .stopUnit .ok [] ∧ s.rederived (some r.port) t ∧
          (old.state = .starting ∨ old.state = .running →
            t.duty.units[i].state = .cooldown ∧ t.duty.units[i].timer = some s.params.duty.tCool ∧
            t.out.run[i] = false) ∧
          (old.state = .cooldown ∨ old.state = .tripped ∨ old.state = .outOfService →
            t.duty.units[i].state = old.state ∧ t.duty.units[i].timer = old.timer) ∧
          (old.state = .stopped → s.params.units[i].source = .manual →
            t.duty.units[i].state = .stopped ∧ ∀ q ∈ t.duty.queue, q.unit ≠ i)))

/-- SET_UNIT and SET_DUTY (R93, R96, R104, R105): a refusal changes nothing; an accepted set is in force and stored; a unit
goes out of service and out of the queue, and comes back STOPPED, or TRIPPED under a latched record; a queued entry takes
the kind of its unit's source, and one that becomes MANUAL the auto priority level then in force as its fixed level (R96; of
the new parameters: notes/assumptions/10.md); a running timer is kept, and every start-inhibited flag is evaluated. -/
def Obligations.DutySettings : Prop :=
  (∀ unit inService source rating level : Int,
    (setUnitArgs [unit, inService, source, rating, level]).isSome = true ↔
      (0 ≤ unit ∧ unit ≤ 3) ∧ (inService = 0 ∨ inService = 1) ∧ (source = 0 ∨ source = 1) ∧
      (1000000 ≤ rating ∧ rating ≤ 4000000000) ∧ (1 ≤ level ∧ level ≤ 15)) ∧
  (∀ (r : Request) (s : State) (args : List Int), s.takes .setUnit r args →
    (setUnitArgs args = none → exec (.setUnit r) s = .next (answered r .setUnit .refusedRange [] s)) ∧
    (∀ i p, setUnitArgs args = some (i, p) →
      let old := s.duty.units[i]
      let busy : Prop := old.state = .starting ∨ old.state = .running ∨ old.state = .cooldown
      let q : OpParams := { s.params with units := s.params.units.set i p }
      (p.inService = false → busy → exec (.setUnit r) s = .next (answered r .setUnit .refusedState [] s)) ∧
      (p.inService = true ∨ ¬busy →
        ∃ t, exec (.setUnit r) s = .next t ∧ t.answers r .setUnit .ok [] ∧
          ({ s with params := q, store := { s.store with opImage := some (opImage q), opValid := true } } :
            State).rederived (some r.port) t ∧
          (p.inService = false → t.duty.units[i].state = .outOfService ∧ t.duty.units[i].timer = none ∧
            ∀ x ∈ t.duty.queue, x.unit ≠ i) ∧
          (p.inService = true → old.state = .outOfService →
            ((s.prot.latched .site || s.prot.latched (.unit i)) = true → t.duty.units[i].state = .tripped) ∧
            ((s.prot.latched .site || s.prot.latched (.unit i)) = false → p.source = .manual →
              s.duty.queued i = false → t.duty.units[i].state = .stopped)) ∧
          (busy ∨ old.state = .tripped → p.inService = true → s.duty.queued i = false →
            t.duty.units[i].state = old.state ∧ t.duty.units[i].timer = old.timer) ∧
          (∀ x ∈ t.duty.queue, x.unit = i → x.kind = p.source) ∧
          (UnitInv s → p.inService = true → p.source = .manual → t.duty.units[i].state = .stopped →
            ∀ x ∈ s.duty.queue, x.unit = i →
              { unit := i, kind := .manual, level := if x.kind = .auto then p.level else x.level } ∈ t.duty.queue)))) ∧
  (∀ (r : Request) (s : State) (tStart tCool tHold limit : Nat),
    s.takes .setDuty r [(tStart : Int), (tCool : Int), (tHold : Int), (limit : Int)] →
    let good : Prop := (60 ≤ tStart ∧ tStart ≤ 900) ∧ (60 ≤ tCool ∧ tCool ≤ 1800) ∧ (60 ≤ tHold ∧ tHold ≤ 3600) ∧
      (1 ≤ limit ∧ limit ≤ 6)
    (¬good → exec (.setDuty r) s = .next (answered r .setDuty .refusedRange [] s)) ∧
    (good →
      let q : OpParams :=
        { s.params with duty := { tStart := tStart, tCool := tCool, tHold := tHold, startLimit := limit } }
      ∃ t, exec (.setDuty r) s = .next t ∧ t.answers r .setDuty .ok [] ∧
        ({ s with params := q, store := { s.store with opImage := some (opImage q), opValid := true } } :
          State).rederived (some r.port) t ∧
        ∀ i : Fin 4,
          (s.duty.queued i = false → s.duty.units[i].state ≠ .stopped →
            t.duty.units[i].state = s.duty.units[i].state ∧ t.duty.units[i].timer = s.duty.units[i].timer) ∧
          t.duty.units[i].inhibited =
            (t.duty.units[i].state == .stopped &&
              decide (limit ≤ recentStarts s.time.clock t.duty.units[i].startLog))))

/-- The events of a unit (R86, R89 to R91, R100): a change of feedback, the expiry of T_start, of T_cool and of the stop
delay, in each state in which they act, and no effect in any other, nor before the timer has run out (acting late is
the model's choice: notes/assumptions/4.md). A failure trips the unit and hands its cause. -/
def Obligations.UnitEvents : Prop :=
  ∀ (s : State) (i : Fin 4),
    let old := s.duty.units[i]
    let record := s.prot.record (.unit i)
    let trips (who : State) (c : TripCause) (t : State) : Prop :=
      who.settled none t ∧ t.duty.units[i].state = .tripped ∧ t.duty.units[i].timer = none ∧ t.out.run[i] = false ∧
      t.prot = (if record.latched = true ∧ record.hasCause c = true then s.prot
        else s.prot.setRecord (.unit i) (record.reach c s.time.clock s.time.lost)) ∧
      t.prot.latched (.unit i) = true ∧ (t.prot.record (.unit i)).hasCause c = true ∧
      (t.ports.ops.causes.getLsbD 0 =
        (s.ports.ops.causes.getLsbD 0 || !(record.latched && record.hasCause c)))
    (∀ active : Bool,
      let s1 : State := { s with duty := { s.duty with units := s.duty.units.set i { old with feedback := active } } }
      (s.running = false ∨ active = old.feedback ∨
          (old.state ≠ .starting ∧ old.state ≠ .running) ∨ (old.state = .starting ∧ active = false) ∨
          (old.state = .running ∧ active = true) →
        exec (.feedbackChange i active) s = .next s1.driveOutputs) ∧
      (s.running = true → active ≠ old.feedback → old.state = .starting → active = true → s.duty.queued i = false →
        ∃ t, exec (.feedbackChange i active) s = .next t ∧ s1.rederived none t ∧
          t.duty.units[i].state = .running ∧ t.duty.units[i].timer = none) ∧
      (s.running = true → active ≠ old.feedback → old.state = .running → active = false →
        ∃ t, exec (.feedbackChange i active) s = .next t ∧ trips s1 .runLoss t)) ∧
    (s.running = false ∨ old.state ≠ .starting ∨ old.feedback = true ∨ old.timer ≠ some 0 →
      exec (.startTimeExpiry i) s = .next s.driveOutputs) ∧
    (s.running = true → old.state = .starting → old.feedback = false → old.timer = some 0 →
      ∃ t, exec (.startTimeExpiry i) s = .next t ∧ trips s .startFail t) ∧
    (s.running = false ∨ old.state ≠ .cooldown ∨ old.timer ≠ some 0 → exec (.cooldownExpiry i) s = .next s.driveOutputs) ∧
    (s.running = true → old.state = .cooldown → old.timer = some 0 → old.feedback = true →
      ∃ t, exec (.cooldownExpiry i) s = .next t ∧ trips s .stopFail t) ∧
    (s.running = true → old.state = .cooldown → old.timer = some 0 → old.feedback = false →
      ∃ t, exec (.cooldownExpiry i) s = .next t ∧ s.rederived none t ∧
        (s.params.units[i].source = .manual → s.duty.queued i = false →
          t.duty.units[i].state = .stopped ∧ t.duty.units[i].timer = none ∧
          t.duty.units[i].inhibited =
            decide (s.params.duty.startLimit ≤ recentStarts s.time.clock old.startLog))) ∧
    (s.running = false ∨ s.duty.stopDelay ≠ some 0 → exec .stopDelayExpiry s = .next s.driveOutputs) ∧
    (s.running = true → s.duty.stopDelay = some 0 → UnitInv s →
      let auto (j : Fin 4) : Prop := s.params.units[j].source = .auto
      let running (j : Fin 4) : Prop := auto j ∧ s.duty.units[j].state = .running
      let chosen : Prop :=
        (running i ∧ ∀ j : Fin 4, running j → j ≠ i →
          s.duty.units[j].runSeconds < old.runSeconds ∨ (s.duty.units[j].runSeconds = old.runSeconds ∧ j < i)) ∨
        ((∀ j : Fin 4, ¬running j) ∧ auto i ∧ old.state = .starting)
      ∃ t, exec .stopDelayExpiry s = .next t ∧ s.rederived none t ∧
        (chosen → t.duty.units[i].state = .cooldown ∧ t.duty.units[i].timer = some s.params.duty.tCool) ∧
        (¬chosen → old.state ≠ .stopped → t.duty.units[i].state = old.state ∧ t.duty.units[i].timer = old.timer) ∧
        t.duty.stopDelay =
          (if t.duty.demand < t.duty.active t.dutyEnv then some s.params.duty.tHold else none))

/-- The reaction of the duty controller (R97 to R100). D is the raw demand capped by the available AUTO units; then there
are AUTO entries enough for D and none in excess of it, the start slot is not free beside an entry that could have it,
it goes to the first entry by level, run seconds and index, and the stop delay runs exactly while M exceeds D. The order of
joining, surplus removal and handing within one reaction is the model's (notes/assumptions/8.md and 29.md). -/
def Obligations.DutyReaction : Prop :=
  (∀ (e : DutyEnv) (d : Duty),
    let available := (List.finRange 4).countP fun i => e.isAuto i && (d.units[i]).available
    ((∀ i, e.isAuto i = false) → d.demandOf e = 0) ∧
    (∀ i, e.isAuto i = true → (∀ j, e.isAuto j = true → e.units[i].rating ≤ e.units[j].rating) →
      let r := e.units[i].rating
      (e.mode = .inject → 0 < e.net → d.demandOf e = min ((e.net.toNat + r - 1) / r) available) ∧
      (e.mode = .withdraw → e.boost = true → e.net < 0 →
        d.demandOf e = min (((-e.net).toNat + r - 1) / r) available) ∧
      (e.mode ≠ .inject ∨ e.net ≤ 0 → e.mode ≠ .withdraw ∨ e.boost = false ∨ 0 ≤ e.net → d.demandOf e = 0))) ∧
  (∀ (e : DutyEnv) (d : Duty),
    (d.queue.map (·.unit)).Nodup →
    (∀ q ∈ d.queue, d.units[q.unit].state = .stopped ∧ q.kind = e.units[q.unit].source) →
    e.mode ≠ .changeover → e.mode ≠ .shutdown →
    (∀ i j : Fin 4, d.units[i].state = .starting → d.units[j].state = .starting → i = j) →
    let n := d.react e
    n.demand = d.demandOf e ∧
    n.demand ≤ n.active e + n.autoReady ∧
    (n.autoEntries = 0 ∨ n.active e + n.autoEntries ≤ n.demand) ∧
    (∀ i j : Fin 4, n.units[i].state = .starting → n.units[j].state = .starting → i = j) ∧
    ((∀ i : Fin 4, n.units[i].state ≠ .starting) → ∀ q ∈ n.queue, n.units[q.unit].inhibited = true) ∧
    n.stopDelay = (if n.demand < n.active e then some (d.stopDelay.getD e.duty.tHold) else none) ∧
    (∀ q ∈ d.queue, q.kind = .manual → q ∈ n.queue ∨ n.units[q.unit].state = .starting ∨
      n.units[q.unit].state = .running) ∧
    (∀ i : Fin 4, d.units[i].state ≠ .stopped → n.units[i] = d.units[i])) ∧
  (∀ (e : DutyEnv) (d : Duty) (q : QueueEntry),
    e.mode ≠ .changeover → e.mode ≠ .shutdown → (∀ i : Fin 4, d.units[i].state ≠ .starting) →
    (d.queue.map (·.unit)).Nodup → q ∈ d.queue → d.units[q.unit].inhibited = false →
    (∀ x ∈ d.queue, x ≠ q → d.units[x.unit].inhibited = false →
      e.level x < e.level q ∨ (e.level x = e.level q ∧
        (d.units[q.unit].runSeconds < d.units[x.unit].runSeconds ∨
          (d.units[q.unit].runSeconds = d.units[x.unit].runSeconds ∧ q.unit < x.unit)))) →
    let n := Duty.handSlots e 4 d
    let log := d.units[q.unit].startLog
    (n.units[q.unit].state = if d.units[q.unit].feedback = true then .running else .starting) ∧
    n.units[q.unit].startLog = log.drop (log.length - 5) ++ [e.clock] ∧
    (∀ x ∈ n.queue, x.unit ≠ q.unit) ∧
    (d.units[q.unit].feedback = false → n.queue = d.queue.filter fun x => x.unit != q.unit))

/-! ### Gas drying: requests and regeneration (chapter 6) -/

/-- SET_TRAIN and SET_DRYER (R109, R112, R115, R122, R123): a refusal changes nothing; an accepted set is in force and
stored, running tower timers go on, and each change acts at the trains as its line gives. The derivation of a train's state,
line by line (R109), from what it reads; what it does at the towers: on entry into TRIPPED or OUT_OF_SERVICE (R119), on the
return (R120), on entry into IN_SERVICE (R110), and by the examination for a tower to heat (R117). Of several changes of one
SET_TRAIN, in service acts before limits and dew point point before capacity (the model's choice:
notes/assumptions/29.md). -/
def Obligations.DryerSettings : Prop :=
  (∀ (train inService rating dew inlet switch spec capacity : Int) (temps contents : List Int),
    temps.length = 8 → contents.length = 8 →
    ((trainArgs ([train, inService, rating, dew, inlet, switch, spec, capacity] ++ temps ++ contents)).isSome = true ↔
      (train = 0 ∨ train = 1) ∧ (inService = 0 ∨ inService = 1) ∧ (0 ≤ rating ∧ rating ≤ 4000000000) ∧
      (0 ≤ dew ∧ dew ≤ 47) ∧ (0 ≤ inlet ∧ inlet ≤ 47) ∧ (-6000 ≤ switch ∧ switch ≤ 2000) ∧
      (-6000 ≤ spec ∧ spec ≤ 2000) ∧ switch < spec ∧ (10 ≤ capacity ∧ capacity ≤ 50000) ∧
      (∀ v ∈ temps, -5000 ≤ v ∧ v ≤ 10000) ∧ (∀ v ∈ contents, 0 ≤ v ∧ v ≤ 100000) ∧
      temps.Pairwise (fun a b => a < b))) ∧
  (∀ (r : Request) (s : State) (args : List Int), s.takes .setTrain r args →
    (trainArgs args = none → exec (.setTrain r) s = .next (answered r .setTrain .refusedRange [] s)) ∧
    (∀ k p, trainArgs args = some (k, p) →
      let old := s.params.trains[k]
      let q : OpParams := { s.params with trains := s.params.trains.set k p }
      let sameService : Prop := old.inService = p.inService
      let sameLimits : Prop := old.switchLimit = p.switchLimit ∧ old.specLimit = p.specLimit ∧ old.dewPoint = p.dewPoint
      let sameCapacity : Prop := old.capacity = p.capacity
      let point := s.survey.points[p.dewPoint]
      ∃ t, exec (.setTrain r) s = .next t ∧ t.answers r .setTrain .ok [] ∧
        (({ s with params := q, store := { s.store with opImage := some (opImage q), opValid := true } } :
          State)).settled (some r.port) t ∧
        t.prot = s.prot ∧ t.move.mode = s.move.mode ∧ t.move.wanted = s.move.wanted ∧
        t.move.changeover = s.move.changeover ∧
        (∀ j : Fin 2, j ≠ k → t.dryer.trains[j] = s.dryer.trains[j]) ∧
        (sameService → sameLimits → sameCapacity → t.dryer.trains[k] = s.dryer.trains[k]) ∧
        (¬sameService → sameLimits → sameCapacity →
          t.dryer.trains[k] = (s.dryer.trains[k]).derive (t.trainEnv k) ∧
          t.dryer.trains[k].state = (s.dryer.trains[k]).derivedState (t.trainEnv k)) ∧
        (sameService → ¬sameLimits → sameCapacity →
          t.dryer.trains[k] = (s.dryer.trains[k]).dewAction (t.trainEnv k) point.quality point.value) ∧
        (sameService → sameLimits → ¬sameCapacity →
          t.dryer.trains[k] = (s.dryer.trains[k]).evalSwitch (t.trainEnv k)) ∧
        (let a := if sameService then s.dryer.trains[k] else (s.dryer.trains[k]).derive (t.trainEnv k)
         let b := if sameLimits then a else a.dewAction (t.trainEnv k) point.quality point.value
         t.dryer.trains[k] = if sameCapacity then b else b.evalSwitch (t.trainEnv k)))) ∧
  (∀ (r : Request) (s : State) (heat cool ads : Nat), s.takes .setDryer r [(heat : Int), (cool : Int), (ads : Int)] →
    let good : Prop := (3600 ≤ heat ∧ heat ≤ 43200) ∧ (1800 ≤ cool ∧ cool ≤ 21600) ∧ (3600 ≤ ads ∧ ads ≤ 172800)
    let q : OpParams := { s.params with dryer := { tHeat := heat, tTcool := cool, maxAds := ads } }
    (¬good → exec (.setDryer r) s = .next (answered r .setDryer .refusedRange [] s)) ∧
    (good →
      ∃ t, exec (.setDryer r) s = .next t ∧ t.answers r .setDryer .ok [] ∧
        (({ s with params := q, store := { s.store with opImage := some (opImage q), opValid := true } } :
          State)).settled (some r.port) t ∧
        t.prot = s.prot ∧ t.move.mode = s.move.mode ∧ t.move.wanted = s.move.wanted ∧
        t.move.changeover = s.move.changeover ∧
        (ads = s.params.dryer.maxAds → t.dryer = s.dryer) ∧
        (ads ≠ s.params.dryer.maxAds →
          ∀ k : Fin 2, t.dryer.trains[k] = (s.dryer.trains[k]).evalSwitch (t.trainEnv k)))) ∧
  (∀ (s : State) (k : Fin 2),
    let e := s.trainEnv k
    (e.tripped = true ↔ s.prot.latched .site = true ∨ s.prot.latched (.train k) = true) ∧
    (e.withdraw = true ↔ s.move.mode = .withdraw) ∧ e.params = s.params.trains[k] ∧ e.dryer = s.params.dryer) ∧
  (∀ (e : TrainEnv) (t : Train),
    let usable : Prop := ∃ i : Fin 2, t.towers[i].state = .adsorbing ∨ t.towers[i].state = .ready
    let st := t.derivedState e
    (e.tripped = true → st = .tripped) ∧
    (e.tripped = false → e.params.inService = false → st = .outOfService) ∧
    (e.tripped = false → e.params.inService = true →
      (e.withdraw = false → st = .standby) ∧
      (e.withdraw = true → t.state.isDrying = true → st = t.state) ∧
      (e.withdraw = true → t.state.isDrying = false → usable → st = .inService) ∧
      (e.withdraw = true → t.state.isDrying = false → ¬usable → st = .standby))) ∧
  (∀ (e : TrainEnv) (t : Train),
    let st := t.derivedState e
    let enters : Prop := st = .inService ∧ t.state.isDrying = false
    let back (w : Tower) : Tower :=
      if t.state.isHeld = true ∧ w.state = .cooling then { w with timer := some e.dryer.tTcool } else w
    let starts (i : Fin 2) : Bool :=
      t.towers[i].state == .ready && t.towers[partner i].state != .adsorbing && (i == 0 || t.towers[0].state != .ready)
    let entered : Train :=
      { state := .inService
        dewHigh := false
        towers := Vector.ofFn fun i =>
          if starts i then { t.towers[i] with state := .adsorbing, adsSeconds := 0, pending := false, timer := none }
          else back t.towers[i] }
    (st.isHeld = true → t.derive e = t.heldAs st) ∧
    (st.isHeld = false → ¬enters →
      t.derive e = ({ t with state := st, towers := Vector.ofFn fun i => back t.towers[i] } : Train).startHeating e) ∧
    (enters → t.derive e = (entered.evalSwitch e).startHeating e)) ∧
  (∀ (e : TrainEnv) (t : Train),
    let busy : Prop := ∃ i : Fin 2, t.towers[i].state = .heating ∨ t.towers[i].state = .cooling
    (t.state.isHeld = true ∨ busy ∨ (∀ i : Fin 2, t.towers[i].state ≠ .loaded) → t.startHeating e = t) ∧
    (∀ i : Fin 2, t.state.isHeld = false → ¬busy → t.towers[i].state = .loaded → i = 0 ∨ t.towers[0].state ≠ .loaded →
      t.startHeating e = t.setTower i { t.towers[i] with state := .heating, timer := some e.dryer.tHeat })) ∧
  (∀ (e : TrainEnv) (t : Train) (q : Quality) (v : Int), t.state.isDrying = true →
    let judged (dew : Bool) (st : TrainState) : Train := ({ t with dewHigh := dew, state := st } : Train).evalSwitch e
    t.dewAction e q v =
      if q = .failed ∨ q = .unknown then judged false t.state
      else if e.params.specLimit < v then judged true .offSpec
      else if e.params.switchLimit < v then judged true t.state
      else judged false .inService)

/-- SET_TOWER and the expiries of T_heat and T_tcool (R116 to R118, R121): SET_TOWER by its table; a HEATING tower becomes
COOLING with loading 0; a COOLING one becomes READY, or ADSORBING where its partner waits to switch or its train for a
tower. The two expiries do nothing in any other state of the tower, before its timer has run out, or while a latch or the
parameter holds the train and so the timer (R119; acting late is the model's choice: notes/assumptions/4.md). -/
def Obligations.TowerCommands : Prop :=
  ∀ (s : State) (i : Fin 4),
    let k := towerTrain i
    let train := s.dryer.trains[k]
    let w := s.tower i
    let other := train.towers[partner (towerPlace i)]
    let free : Prop := (s.prot.latched .site || s.prot.latched (.train k)) = false ∧ s.params.trains[k].inService = true
    let moved (who : Option Port) (t : State) : Prop :=
      s.sameElsewhere who t ∧ t.prot = s.prot ∧ t.move.mode = s.move.mode ∧ t.move.wanted = s.move.wanted ∧
      t.move.changeover = s.move.changeover ∧ ∀ j : Fin 4, j ≠ i → (t.tower j).loading = (s.tower j).loading
    (∀ (r : Request) (tower v : Int), s.takes .setTower r [tower, v] →
      (tower < 0 ∨ 3 < tower ∨ (v ≠ 0 ∧ v ≠ 1) →
        exec (.setTower r) s = .next (answered r .setTower .refusedRange [] s)) ∧
      (tower = i.val → v = 0 → w.state = .heating ∨ w.state = .cooling ∨
          (w.state = .adsorbing ∧ train.state.isDrying = true) →
        exec (.setTower r) s = .next (answered r .setTower .refusedState [] s)) ∧
      (tower = i.val → (v = 0 ∧ w.state = .outOfService) ∨ (v = 1 ∧ w.state ≠ .outOfService) →
        exec (.setTower r) s = .next (answered r .setTower .ok [] s)) ∧
      (tower = i.val → v = 0 → w.state = .ready ∨ w.state = .loaded ∨
          (w.state = .adsorbing ∧ train.state.isDrying = false) →
        ∃ t, exec (.setTower r) s = .next t ∧ t.answers r .setTower .ok [] ∧ moved (some r.port) t ∧
          t.tower i = { w with state := .outOfService
                               pending := if w.state = .adsorbing then false else w.pending } ∧
          t.out.towerSelect[i] = false) ∧
      (tower = i.val → v = 1 → w.state = .outOfService →
        ∃ t, exec (.setTower r) s = .next t ∧ t.answers r .setTower .ok [] ∧ moved (some r.port) t ∧
          (¬free → t.tower i = { w with state := .loaded }) ∧
          (free → other.regenerating = true → train.state.isHeld = false → (t.tower i).state = .loaded) ∧
          (free → other.regenerating = false → other.state ≠ .loaded →
            t.tower i = { w with state := .heating, timer := some s.params.dryer.tHeat }))) ∧
    (s.running = false ∨ w.state ≠ .heating ∨ w.timer ≠ some 0 → exec (.heatingExpiry i) s = .next s.driveOutputs) ∧
    (s.running = true → w.state = .heating → w.timer = some 0 → TrainInv s → free →
      ∃ t, exec (.heatingExpiry i) s = .next t ∧ moved none t ∧
        t.tower i = { w with state := .cooling, loading := 0, timer := some s.params.dryer.tTcool } ∧
        t.out.heater[k] = false) ∧
    (s.running = false ∨ w.state ≠ .cooling ∨ w.timer ≠ some 0 ∨ train.state.isHeld = true → exec (.coolingExpiry i) s = .next s.driveOutputs) ∧
    (s.running = true → w.state = .cooling → w.timer = some 0 → TrainInv s → train.state.isHeld = false → free →
      ∃ t, exec (.coolingExpiry i) s = .next t ∧ moved none t ∧ (t.tower i).loading = w.loading ∧
        (other.state = .adsorbing → other.pending = true →
          (t.tower i).state = .adsorbing ∧ (t.tower i).adsSeconds = 0 ∧ (t.tower i).timer = none ∧
          t.dryer.trains[k].towers[partner (towerPlace i)] =
            { other with state := .heating, pending := false, timer := some s.params.dryer.tHeat }) ∧
        (other.state ≠ .adsorbing ∨ other.pending = false → s.move.mode ≠ .withdraw ∨ train.state.isDrying = true →
          t.tower i = { w with state := .ready, timer := none }) ∧
        (other.state ≠ .adsorbing → other.state ≠ .ready → s.move.mode = .withdraw → train.state = .standby →
          t.dryer.trains[k].state = .inService ∧ (t.tower i).state = .adsorbing ∧ (t.tower i).adsSeconds = 0))

/-! ### The protection matrix (chapter 7) -/

/-- A channel's source and its events (R126 to R129, R131 to R133): the source of each form, with the senses and the DOWN
column; the ranges of SET_CHANNEL, its fresh start, the evaluation of each channel that reads a changed pin, or lines and
health that are set, the expiry of a debounce, and what a channel becoming active does by its class. An expiry
acts once its debounce has run out, and may come late (the model's choice: notes/assumptions/4.md). -/
def Obligations.ProtectionChannels : Prop :=
  (∀ (s : State) (c : Fin 32),
    let k := s.params.channels[c]
    let pin : Prop := s.prot.pins[k.pin] = k.pinHigh
    let line : Prop := s.link.lines[k.unit][k.line] = k.lineHigh
    let down : Prop := s.link.health[k.unit].health = .down
    (k.form = .pin → (s.sourceOf c = true ↔ pin)) ∧
    (k.form = .line → (s.sourceOf c = true ↔ line)) ∧
    (k.form = .pointHigh → s.sourceOf c = s.survey.points[k.point].alarmHigh) ∧
    (k.form = .pointLow → s.sourceOf c = s.survey.points[k.point].alarmLow) ∧
    (k.form = .pinOrLine → ¬down → (s.sourceOf c = true ↔ pin ∨ line)) ∧
    (k.form = .pinOrLine → down → s.sourceOf c = true) ∧
    (k.form = .pinAndLine → ¬down → (s.sourceOf c = true ↔ pin ∧ line)) ∧
    (k.form = .pinAndLine → down → (s.sourceOf c = true ↔ pin))) ∧
  (∀ channel enable form pin pinSense unit line lineSense point debounce cls targets : Int,
    (channelArgs [channel, enable, form, pin, pinSense, unit, line, lineSense, point, debounce, cls,
        targets]).isSome = true ↔
      (0 ≤ channel ∧ channel ≤ 31) ∧ (enable = 0 ∨ enable = 1) ∧ (0 ≤ form ∧ form ≤ 5) ∧ (0 ≤ pin ∧ pin ≤ 15) ∧
      (pinSense = 0 ∨ pinSense = 1) ∧ (1 ≤ unit ∧ unit ≤ 6) ∧ (0 ≤ line ∧ line ≤ 3) ∧
      (lineSense = 0 ∨ lineSense = 1) ∧ (0 ≤ point ∧ point ≤ 47) ∧ (0 ≤ debounce ∧ debounce ≤ 2000) ∧
      (0 ≤ cls ∧ cls ≤ 2) ∧ (0 ≤ targets ∧ targets ≤ 4095) ∧ ¬(cls = 1 ∧ targets = 0)) ∧
  (∀ (r : Request) (s : State) (args : List Int), s.takes .setChannel r args →
    (channelArgs args = none → exec (.setChannel r) s = .next (answered r .setChannel .refusedRange [] s)) ∧
    (∀ c k, channelArgs args = some (c, k) →
      let q : OpParams := { s.params with channels := s.params.channels.set c k }
      let fresh (v : ChannelState) : State :=
        { s with params := q, store := { s.store with opImage := some (opImage q), opValid := true },
                 prot := { s.prot with channels := s.prot.channels.set c v } }
      let s1 := fresh { source := false, timer := none, live := false }
      (k.enabled = false ∨ s1.sourceOf c = false →
        exec (.setChannel r) s = .next (answered r .setChannel .ok [] s1)) ∧
      (k.enabled = true → s1.sourceOf c = true → 0 < k.debounce →
        exec (.setChannel r) s = .next (answered r .setChannel .ok []
          (fresh { source := true, timer := some k.debounce, live := false }))) ∧
      (k.enabled = true → s1.sourceOf c = true → k.debounce = 0 →
        exec (.setChannel r) s = .next (answered r .setChannel .ok [] (s1.becomeActive c))))) ∧
  (∀ (p : Fin 16) (high : Bool) (s : State),
    let s1 : State := { s with prot := { s.prot with pins := s.prot.pins.set p high } }
    let reads (c : Fin 32) : Prop := s.params.channels[c].enabled = true ∧ s.params.channels[c].pin = p ∧
      (s.params.channels[c].form = .pin ∨ s.params.channels[c].form = .pinOrLine ∨
        s.params.channels[c].form = .pinAndLine)
    (s.running = false → exec (.pinLevelChange p high) s = .next s1.driveOutputs) ∧
    (s.running = true →
      ∃ t, exec (.pinLevelChange p high) s = .next t ∧ s1.settled none t ∧
        s1.channelsAct reads t ∧
        ((∀ c : Fin 32, reads c → s.prot.channels[c].source = true ∨ s1.sourceOf c = false ∨
            0 < s.params.channels[c].debounce) →
          t = ({ s1 with prot := { s1.prot with channels := t.prot.channels } } : State).driveOutputs))) ∧
  (∀ (u : Fin 6) (h : UnitHealth) (lines : Vector Bool 4) (s : State),
    let s1 : State := { s with link := { s.link with health := s.link.health.set u h, lines := s.link.lines.set u lines } }
    let t := s.setUnitLink u h lines
    s1.settled none t ∧ s1.matrixFollows (fun v => v = u) t ∧
    t.ports.ops.causes.getLsbD 2 = (s.ports.ops.causes.getLsbD 2 || h.health != s.link.health[u].health)) ∧
  (∀ (c : Fin 32) (s : State),
    (s.running = false ∨ s.params.channels[c].enabled = false ∨ s.prot.channels[c].timer ≠ some 0 →
      exec (.debounceExpiry c) s = .next s.driveOutputs) ∧
    (s.running = true → s.params.channels[c].enabled = true → s.prot.channels[c].timer = some 0 →
      exec (.debounceExpiry c) s = .next (s.becomeActive c).driveOutputs)) ∧
  (∀ (c : Fin 32) (s : State),
    let k := s.params.channels[c]
    let s1 : State := { s with prot := { s.prot with
      channels := s.prot.channels.set c { source := true, timer := none, live := true } } }
    let t := s.becomeActive c
    (k.cls = .advisory →
      t = { s1 with prot := { s1.prot with advisory := s.prot.advisory ||| BitVec.ofNat 32 (2 ^ c.val) }
                    ports := { s.ports with ops := { s.ports.ops with causes := s.ports.ops.causes ||| 2#11 } } }) ∧
    (k.cls = .site → t = s1.reach .site (.channel c)) ∧
    (k.cls = .equipment →
      t.prot.channels = s1.prot.channels ∧ t.prot.advisory = s.prot.advisory ∧
      t.prot.record .site = s.prot.record .site ∧
      ∀ rec : RecordId, t.prot.record rec =
        if namesRecord k.targets rec = true then (s.prot.record rec).reach (.channel c) s.time.clock s.time.lost
        else s.prot.record rec))

/-- A cause reaching a record (R130), and what a latch does at the equipment of the record (R9, R92, R109, R119, R136): a
train that trips has its HEATING tower made LOADED, with its loading kept, and every other tower and DEW_HIGH left as they
are. -/
def Obligations.CauseReachesRecord : Prop :=
  ∀ (s : State) (rec : RecordId) (c : TripCause),
    let old := s.prot.record rec
    let t := s.reach rec c
    (old.latched = true → old.hasCause c = true → t = s) ∧
    (old.latched = true → old.hasCause c = false →
      t = { s with prot := s.prot.setRecord rec { old with causes := old.causes ||| c.mask }
                   ports := { s.ports with ops := { s.ports.ops with causes := s.ports.ops.causes ||| 1#11 } } }) ∧
    (old.latched = false →
      t.prot = s.prot.setRecord rec { latched := true, causes := c.mask
                                      firstOut := some { cause := c, clock := s.time.clock, lost := s.time.lost } } ∧
      s.settled none t ∧ t.ports.ops.causes.getLsbD 0 = true ∧
      (rec ≠ .site → t.move.mode = s.move.mode ∧ t.move.changeover = s.move.changeover) ∧
      t.move.wanted = s.move.wanted ∧
      match rec with
      | .site =>
        t.move.mode = .shutdown ∧ t.move.changeover = none ∧ t.duty.queue = [] ∧
        (∀ u : Fin 4, t.duty.units[u].state = .tripped ∨ t.duty.units[u].state = .outOfService) ∧
        (∀ k : Fin 2, t.dryer.trains[k].state = .tripped ∧ t.dryer.trains[k] = (s.dryer.trains[k]).heldAs .tripped) ∧
        (∀ i : Fin 6, t.move.caverns[i].state = .tripped ∨ t.move.caverns[i].state = .disabled)
      | .unit u => (t.duty.units[u].state = .tripped ∨ t.duty.units[u].state = .outOfService) ∧ t.dryer = s.dryer
      | .cavern i => (t.move.caverns[i].state = .tripped ∨ t.move.caverns[i].state = .disabled) ∧ t.dryer = s.dryer
      | .train k =>
        t.dryer.trains[k].state = .tripped ∧ t.dryer.trains[k] = (s.dryer.trains[k]).heldAs .tripped ∧
        ∀ j : Fin 2, j ≠ k → t.dryer.trains[j] = s.dryer.trains[j])

/-- RESET_TRIP (R10, R137 to R139): a record that nothing latched is answered OK; one that some member holds is refused
with the members that hold it, and nothing changes; otherwise it is cleared and its equipment is released once both its
records are clear: a train that returns starts a COOLING tower's timer afresh and heats a LOADED tower (R117, R120), one that
is out of service passes to OUT_OF_SERVICE, and one whose other record is latched stays TRIPPED, their towers as they were
(R109, R119). RESET_TRIP ADVISORY leaves the indices of active channels alone in the advisory set. -/
def Obligations.ResetTrip : Prop :=
  (∀ (r : Request) (s : State) (v : Int), s.takes .resetTrip r [v] →
    (v < 0 ∨ 13 < v → exec (.resetTrip r) s = .next (answered r .resetTrip .refusedRange [] s)) ∧
    (∀ rec : RecordId, v = rec.index.val →
      (s.prot.latched rec = false → exec (.resetTrip r) s = .next (answered r .resetTrip .ok [] s)) ∧
      (∀ held, s.prot.latched rec = true → s.holds rec held = true →
        ∃ set : BitVec 35, (∀ c, (set &&& TripCause.mask c ≠ 0) ↔ s.holds rec c = true) ∧
          exec (.resetTrip r) s = .next (answered r .resetTrip .refusedState (be 5 set.toNat) s)) ∧
      (s.prot.latched rec = true → (∀ c, s.holds rec c = false) → ModeInv s →
        ∃ t, exec (.resetTrip r) s = .next t ∧ t.answers r .resetTrip .ok [] ∧ s.settled (some r.port) t ∧
          t.prot = s.prot.setRecord rec { latched := false, firstOut := none, causes := 0 } ∧
          match rec with
          | .site =>
            (s.params.siteControl = .manual →
              t.move.mode = .hold ∧ t.move.wanted = .hold ∧ t.move.changeover = none) ∧
            (s.params.siteControl = .auto →
              t.move.wanted = wantedBy s.time.lost t.hourDirection ∧
              (t.move.mode, t.move.changeover) = table1_1 s.params.tChange .hold none t.move.wanted) ∧
            (∀ k : Fin 2, s.prot.latched (.train k) = false → t.dryer.trains[k].state ≠ .tripped) ∧
            (∀ k : Fin 2, s.dryer.trains[k].state = .tripped →
              (s.prot.latched (.train k) = true → t.dryer.trains[k] = s.dryer.trains[k]) ∧
              (s.prot.latched (.train k) = false → s.params.trains[k].inService = false →
                t.dryer.trains[k] = { s.dryer.trains[k] with state := .outOfService }) ∧
              (s.prot.latched (.train k) = false → s.params.trains[k].inService = true →
                (s.dryer.trains[k]).returns s.params.dryer t.dryer.trains[k])) ∧
            (∀ u : Fin 4, s.prot.latched (.unit u) = false → t.duty.units[u].state ≠ .tripped) ∧
            (∀ i : Fin 6, t.move.caverns[i].state = t.cavernState i)
          | .unit u =>
            t.move.mode = s.move.mode ∧
            (s.prot.latched .site = false → t.duty.units[u].state ≠ .tripped) ∧
            (s.prot.latched .site = true → s.duty.queued u = false → t.duty.units[u].state = s.duty.units[u].state)
          | .cavern i => t.move.mode = s.move.mode ∧ t.move.caverns[i].state = t.cavernState i
          | .train k =>
            t.move.mode = s.move.mode ∧ (t.dryer.trains[k].state = .tripped ↔ s.prot.latched .site = true) ∧
            (∀ j : Fin 2, j ≠ k → t.dryer.trains[j] = s.dryer.trains[j]) ∧
            (s.dryer.trains[k].state = .tripped →
              (s.prot.latched .site = true → t.dryer.trains[k] = s.dryer.trains[k]) ∧
              (s.prot.latched .site = false → s.params.trains[k].inService = false →
                t.dryer.trains[k] = { s.dryer.trains[k] with state := .outOfService }) ∧
              (s.prot.latched .site = false → s.params.trains[k].inService = true →
                (s.dryer.trains[k]).returns s.params.dryer t.dryer.trains[k]))))) ∧
  (∀ (tag : Byte) (s : State), s.accepting .ops = true →
    let r : Request := { port := .ops, tag := tag, payload := [13#8] }
    ∃ left : BitVec 32,
      (∀ c : Fin 32, left.getLsbD c.val = (s.prot.advisory.getLsbD c.val && s.prot.channels[c].live)) ∧
      let t := answered r .resetTrip .ok (be 4 left.toNat) { s with prot := { s.prot with advisory := left } }
      exec (.resetTripAdvisory .ops tag) s = .next t ∧ exec (.resetTrip r) s = .next t)

/-! ### Nominations (chapter 8) -/

/-- NOMINATE and SET_RATCHET (R145, R146, R150), and the recomputation they end in (R149, R151, R153, R155): the refusals of
the whole request, a result for each rate, the entries stored, replaced and removed, the counter, the recomputed hours
and no others; a table replaced and every hour recomputed; the clamped rate by fill, ratchet factor and slot state (R151);
each confirmed rate and each hour's summary by the steps of R153; and CURTAILMENT at COM and OPS exactly where a recomputation
has changed the confirmed rate of an entry that is FIRM or CURRENT after it (R156). Where the table is yet
to follow the clock's hour, an hour outside the clock's window keeps its rates, and N stands as it was (the model's reading
of R147, R148 and R155: notes/assumptions/11.md). -/
def Obligations.NominationRequests : Prop :=
  (∀ (r : Request) (s : State) (slot : Int) (h : Nat) (rates : List Int),
    s.takes .nominate r (slot :: (h : Int) :: rates) →
    (slot < 1 ∨ 32 < slot → exec (.nominate r) s = .next (answered r .nominate .refusedRange [] s)) ∧
    (1 ≤ slot → slot ≤ 32 → s.time.lost = true →
      exec (.nominate r) s = .next (answered r .nominate .refusedState [] s)) ∧
    (∀ n : Nat, slot = n → 1 ≤ n → n ≤ 32 → s.time.lost = false → s.nom.counter ≤ 4294967295 →
      s.nom.current ≤ s.nom.firm →
      ∃ (t : State) (codes : List AnswerCode), exec (.nominate r) s = .next t ∧
        t.answers r .nominate .ok (codes.map fun c => BitVec.ofNat 8 c.code) ∧ codes.length = rates.length ∧
        (∀ (k : Nat) (rate : Int), rates[k]? = some rate → codes[k]? = some
          (if h + k < s.nom.current ∨ s.nom.current + 23 < h + k then .refusedRange
           else if rate < -100000000000 ∨ 100000000000 < rate then .refusedRange
           else if h + k ≤ s.nom.firm then .late
           else if (slotOf s.book.slots n).state = .inactive then .refusedState
           else .ok)) ∧
        s.sameElsewhere (some r.port) t ∧ t.move = s.move ∧ t.duty = s.duty ∧ t.dryer = s.dryer ∧ t.prot = s.prot ∧
        t.nom = { s.nom with entries := t.nom.entries, summaries := t.nom.summaries, net := t.nom.net
                             counter := min 4294967295 (s.nom.counter + codes.count .ok) } ∧
        (∀ (k : Nat) (rate : Int), rates[k]? = some rate → codes[k]? = some .ok →
          (rate = 0 → ∀ e ∈ t.nom.entries, ¬(e.slot = n ∧ e.hour = h + k)) ∧
          (rate ≠ 0 → ∃ e ∈ t.nom.entries, e.slot = n ∧ e.hour = h + k ∧ e.requested = rate ∧ e.state = .requested ∧
            (s.nom.outside s.nomEnv e.hour = false → e.clamped = clampRate s.params.ratchetInj s.params.ratchetWdr (slotOf s.book.slots n) rate))) ∧
        (∀ e ∈ s.nom.entries, e.slot ≠ n →
          ∃ x ∈ t.nom.entries, x.slot = e.slot ∧ x.hour = e.hour ∧ x.requested = e.requested ∧ x.state = e.state) ∧
        (∀ hour : Nat, (∀ k : Nat, codes[k]? = some .ok → h + k ≠ hour) →
          t.nom.entries.filter (fun e => e.hour == hour) = s.nom.entries.filter (fun e => e.hour == hour)) ∧
        (entriesSound s.nom → (∀ e ∈ s.nom.entries, s.nom.firm < e.hour → e.state = .requested) →
          t.ports.com.causes = s.ports.com.causes ∧ t.ports.ops.causes = s.ports.ops.causes))) ∧
  (∀ table f0 a0 f1 a1 f2 a2 f3 a3 : Int,
    (ratchetArgs [table, f0, a0, f1, a1, f2, a2, f3, a3]).isSome = true ↔
      (table = 0 ∨ table = 1) ∧ (∀ v ∈ [f0, a0, f1, a1, f2, a2, f3, a3], 0 ≤ v ∧ v ≤ 1000000) ∧
      f0 < f1 ∧ f1 < f2 ∧ f2 < f3) ∧
  (∀ (r : Request) (s : State) (args : List Int), s.takes .setRatchet r args →
    (ratchetArgs args = none → exec (.setRatchet r) s = .next (answered r .setRatchet .refusedRange [] s)) ∧
    (∀ w table, ratchetArgs args = some (w, table) →
      let q : OpParams :=
        if w = true then { s.params with ratchetWdr := table } else { s.params with ratchetInj := table }
      ∃ t, exec (.setRatchet r) s = .next t ∧ t.answers r .setRatchet .ok [] ∧
        ({ s with params := q, store := { s.store with opImage := some (opImage q), opValid := true } } :
          State).rederived (some r.port) t ∧
        ∀ e ∈ t.nom.entries, s.nom.outside s.nomEnv e.hour = false →
          e.clamped = clampRate q.ratchetInj q.ratchetWdr (slotOf s.book.slots e.slot) e.requested)) ∧
  (∀ (inj wdr : Ratchet) (sl : Slot) (rate : Int),
    let fill : Int := if sl.space = 0 then 0 else (sl.inventory * 1000000).fdiv sl.space
    let right (table : Ratchet) (r : Nat) : Int := ((r : Int) * interpolate table.toList fill).fdiv 1000000
    (sl.state = .suspended → clampRate inj wdr sl rate = 0) ∧
    (sl.state = .active → 0 < rate → clampRate inj wdr sl rate = min rate (right inj sl.injRight)) ∧
    (sl.state = .active → rate < 0 → clampRate inj wdr sl rate = -min (-rate) (right wdr sl.wdrRight))) ∧
  (∀ (sel : Nat → Bool) (n : Nominations) (s : State),
    let t := s.confirm sel n
    let seen : Prop := ∃ x ∈ t.nom.entries, x.state ≠ .requested ∧
      ∃ y ∈ s.nom.entries, y.slot = x.slot ∧ y.hour = x.hour ∧ y.confirmed ≠ x.confirmed
    let with32 (p : PortState) : PortState := { p with causes := p.causes ||| 32#11 }
    t.nom = n.recompute s.nomEnv sel ∧
    (¬seen → t = { s with nom := t.nom }) ∧
    (seen → t = { s with nom := t.nom
                         ports := { s.ports with com := with32 s.ports.com, ops := with32 s.ports.ops } })) ∧
  (∀ (n : Nominations) (e : NomEnv),
    let m := n.recompute e fun _ => true
    m.entries.map (fun x => (x.slot, x.hour, x.requested, x.state)) =
      n.entries.map (fun x => (x.slot, x.hour, x.requested, x.state)) ∧
    (∀ x ∈ m.entries, n.outside e x.hour = false →
      x.clamped = clampRate e.inj e.wdr (slotOf e.slots x.slot) x.requested) ∧
    (∀ h, n.outside e h = true ↔ e.lost = false ∧ n.current ≠ e.hour ∧ (h < e.hour ∨ e.hour + 23 < h)) ∧
    (∀ h, n.outside e h = true →
      m.entries.filter (fun x => x.hour == h) = n.entries.filter (fun x => x.hour == h) ∧
      m.summaries.filter (fun x => x.hour == h) = n.summaries.filter (fun x => x.hour == h)) ∧
    (e.lost = true → (∀ x ∈ m.entries, x.confirmed = 0) ∧ m.net = 0 ∧ ∀ sm ∈ m.summaries, sm = Summary.blank sm.hour) ∧
    (e.lost = false →
      m.net = (if n.current = e.hour then ((m.entries.filter fun x => x.state == .current).map (·.confirmed)).sum
        else n.net) ∧
      ∀ h : Nat, n.outside e h = false →
        let rates := (m.entries.filter fun x => x.hour == h).map (·.clamped)
        let along (d : Int) : Int := ((rates.filter fun r => r.sign == d).map fun r => (r.natAbs : Int)).sum
        let d := rates.sum.sign
        let inj : Int := if h = e.hour then n.injEff else n.injPot
        let wdr : Int := if h = e.hour then n.wdrEff else n.wdrPot
        let cap := if d = 1 then inj else wdr
        let tw := along d
        let l := cap + along (-d)
        (∀ x ∈ m.entries, x.hour = h →
          (d = 0 ∨ x.clamped.sign ≠ d ∨ tw ≤ l → x.confirmed = x.clamped) ∧
          (d ≠ 0 → x.clamped.sign = d → l < tw → x.confirmed = d * ((x.clamped.natAbs : Int) * l).fdiv tw)) ∧
        (∀ sm ∈ m.summaries, sm.hour = h →
          sm = if d = 0 then
              { hour := h, direction := 0, basis := .none, capacity := 0, withFlow := 0, limit := 0, curtailed := false }
            else
              { hour := h, direction := d, basis := if h = e.hour then .effective else .potential, capacity := cap
                withFlow := tw, limit := l, curtailed := decide (l < tw) })))

/-! ### The account book (chapter 9) -/

/-- STAGE_OPENING and OPEN_BOOK (R157, R162 to R164): a staged entry replaces its slot's; OPEN_BOOK by the table of R163,
naming the first slot that fails, and an accepted one starts a new accounting period with the staged set. The current hour
of the emptied table is the one it follows (the model's choice: notes/assumptions/11.md). -/
def Obligations.OpeningTheBook : Prop :=
  (∀ slot state space inj wdr inventory : Int,
    (stageArgs [slot, state, space, inj, wdr, inventory]).isSome = true ↔
      (1 ≤ slot ∧ slot ≤ 32) ∧ (0 ≤ state ∧ state ≤ 2) ∧ (0 ≤ space ∧ space ≤ 1000000000000000) ∧
      (0 ≤ inj ∧ inj ≤ 100000000000) ∧ (0 ≤ wdr ∧ wdr ≤ 100000000000) ∧
      (0 ≤ inventory ∧ inventory ≤ 1000000000000000)) ∧
  (∀ (r : Request) (s : State) (args : List Int), s.takes .stageOpening r args →
    (stageArgs args = none → exec (.stageOpening r) s = .next (answered r .stageOpening .refusedRange [] s)) ∧
    (∀ i e, stageArgs args = some (i, e) →
      let set := s.book.opening.set i (some e)
      exec (.stageOpening r) s = .next (answered r .stageOpening .ok (be 4 (set.toList.countP Option.isSome))
        { s with book := { s.book with opening := set } }))) ∧
  (∀ (r : Request) (s : State) (g n : Int), s.takes .openBook r [g, n] →
    let set := s.book.opening
    let i : Instr := .openBook r
    let early : Prop := s.time.lost = true ∨ s.move.mode ≠ .hold ∨ n ≠ set.toList.countP Option.isSome
    let fails (bad : Staged → Prop) (k : Fin 32) : Prop := ∃ e, set[k] = some e ∧ bad e
    let first (bad : Staged → Prop) (k : Fin 32) : Prop := fails bad k ∧ ∀ j : Fin 32, j < k → ¬fails bad j
    let full (e : Staged) : Prop := e.space < e.inventory
    let left (e : Staged) : Prop := e.state = .inactive ∧ e.inventory ≠ 0
    (g < 0 ∨ 23 < g → exec i s = .next (answered r .openBook .refusedRange [] s)) ∧
    (0 ≤ g → g ≤ 23 → early → exec i s = .next (answered r .openBook .refusedState [] s)) ∧
    (∀ k : Fin 32, 0 ≤ g → g ≤ 23 → ¬early → first full k ∨ ((∀ j, ¬fails full j) ∧ first left k) →
      exec i s = .next (answered r .openBook .refusedRange (be 1 (k.val + 1)) s)) ∧
    (∀ hour : Nat, g = hour → hour ≤ 23 → ¬early → (∀ j, ¬fails full j) → (∀ j, ¬fails left j) →
      let total : Int := (set.toList.map fun x => match x with | some e => (e.inventory : Int) | none => 0).sum
      ∃ t, exec i s = .next t ∧ t.answers r .openBook .ok (beInt 8 total) ∧
        t.power = s.power ∧ t.time = s.time ∧ t.survey = s.survey ∧ t.link = s.link ∧ t.flow = s.flow ∧
        t.params = s.params ∧ t.metro = s.metro ∧ t.store = s.store ∧ t.prot = s.prot ∧ t.dryer = s.dryer ∧
        t.pending = s.pending ∧ t.move.mode = .hold ∧ t.move.wanted = s.move.wanted ∧
        t.book.openingTotal = total ∧ t.book.startHour = hour ∧
        t.book.openDay = some (((s.time.clock : Int) - 3600 * hour).fdiv 86400) ∧
        t.book.totals = .zero ∧ t.book.dayRecords = [] ∧ t.book.lastSeq = s.book.lastSeq ∧
        (∀ j : Fin 32, t.book.opening[j] = none) ∧
        t.book.slots[(0 : Fin 33)] = Slot.first 0 ∧
        (∀ j : Fin 32, t.book.slots[j.succ] = match set[j] with
          | some e => { Slot.first j.succ with state := e.state, space := e.space, injRight := e.injRight,
                                               wdrRight := e.wdrRight, inventory := e.inventory }
          | none => Slot.first j.succ) ∧
        t.nom.entries = [] ∧ t.nom.summaries = blankWindow s.nom.current ∧ t.nom.previous = none ∧
        t.nom.firm = s.nom.current + s.params.leadTime ∧ t.nom.current = s.nom.current ∧ t.nom.net = 0))

/-- SET_SHIPPER and TRANSFER (R156, R157, R165, R166), each by its table: the slot's values replaced with its inventory and
counters kept, an INACTIVE shipper's entries removed and every hour recomputed, with CURTAILMENT where that changes the
confirmed rate of a FIRM or CURRENT entry (R156); a quantity moved between two slots, with the sum of all inventories
unchanged (that the answer carries the source's inventory first is a deduction: notes/assumptions/33.md). -/
def Obligations.ShipperRequests : Prop :=
  (∀ (r : Request) (s : State) (args : List Int), s.takes .setShipper r args →
    (shipperArgs args = none → exec (.setShipper r) s = .next (answered r .setShipper .refusedRange [] s)) ∧
    (∀ a, shipperArgs args = some a →
      let i : Fin 33 := a.place.succ
      let sl := s.book.slots[i]
      let leaves : Prop := a.state = .inactive ∧ sl.state ≠ .inactive ∧ sl.inventory ≠ 0
      ((a.space : Int) < sl.inventory → exec (.setShipper r) s = .next (answered r .setShipper .refusedRange [] s)) ∧
      (sl.inventory ≤ a.space → leaves → exec (.setShipper r) s = .next (answered r .setShipper .refusedState [] s)) ∧
      (sl.inventory ≤ a.space → ¬leaves →
        ∃ t, exec (.setShipper r) s = .next t ∧ t.answers r .setShipper .ok [] ∧
          t.book = { s.book with slots := s.book.slots.set i { sl with
            state := a.state, space := a.space, injRight := a.injRight, wdrRight := a.wdrRight } } ∧
          t.power = s.power ∧ t.time = s.time ∧ t.survey = s.survey ∧ t.link = s.link ∧ t.flow = s.flow ∧
          t.params = s.params ∧ t.metro = s.metro ∧ t.store = s.store ∧ t.prot = s.prot ∧ t.dryer = s.dryer ∧
          t.pending = s.pending ∧ t.move.mode = s.move.mode ∧ t.move.wanted = s.move.wanted ∧
          t.nom.entries.map (fun e => (e.slot, e.hour, e.requested, e.state)) =
            (s.nom.entries.filter fun e => !(a.state == .inactive && e.slot == i.val)).map
              (fun e => (e.slot, e.hour, e.requested, e.state)) ∧
          ((∃ x ∈ t.nom.entries, x.state ≠ .requested ∧
              ∃ y ∈ s.nom.entries, y.slot = x.slot ∧ y.hour = x.hour ∧ y.confirmed ≠ x.confirmed) →
            t.ports.com.causes.getLsbD 5 = true ∧ t.ports.ops.causes.getLsbD 5 = true) ∧
          ∀ e ∈ t.nom.entries, s.nom.outside s.nomEnv e.hour = false → e.clamped =
            clampRate s.params.ratchetInj s.params.ratchetWdr (slotOf t.book.slots e.slot) e.requested))) ∧
  (∀ slot state space inj wdr : Int,
    (shipperArgs [slot, state, space, inj, wdr]).isSome = true ↔
      (1 ≤ slot ∧ slot ≤ 32) ∧ (0 ≤ state ∧ state ≤ 2) ∧ (0 ≤ space ∧ space ≤ 1000000000000000) ∧
      (0 ≤ inj ∧ inj ≤ 100000000000) ∧ (0 ≤ wdr ∧ wdr ≤ 100000000000)) ∧
  (∀ (r : Request) (s : State) (a b q : Int), s.takes .transfer r [a, b, q] →
    let e : Instr := .transfer r
    let slots := s.book.slots
    (a < 0 ∨ 32 < a ∨ b < 0 ∨ 32 < b ∨ a = b ∨ q < 1 ∨ 1000000000000000 < q →
      exec e s = .next (answered r .transfer .refusedRange [] s)) ∧
    (∀ i j : Fin 33, a = i.val → b = j.val → i ≠ j → 1 ≤ q → q ≤ 1000000000000000 →
      let closed : Prop := (i ≠ 0 ∧ slots[i].state = .inactive) ∨ (j ≠ 0 ∧ slots[j].state = .inactive)
      let short : Prop := (i ≠ 0 ∧ slots[i].inventory < q) ∨ (j ≠ 0 ∧ (slots[j].space : Int) < slots[j].inventory + q)
      (closed → exec e s = .next (answered r .transfer .refusedState [] s)) ∧
      (¬closed → short → exec e s = .next (answered r .transfer .refusedRange [] s)) ∧
      (¬closed → ¬short →
        let x : Slot := { slots[i] with
          inventory := i64 (slots[i].inventory - q)
          day := { slots[i].day with transfersOut := u63 (slots[i].day.transfersOut + q.toNat) } }
        let y : Slot := { slots[j] with
          inventory := i64 (slots[j].inventory + q)
          day := { slots[j].day with transfersIn := u63 (slots[j].day.transfersIn + q.toNat) } }
        exec e s = .next (answered r .transfer .ok (beInt 8 x.inventory ++ beInt 8 y.inventory)
          { s with book := { s.book with slots := (slots.set i x).set j y } }) ∧
        (-9223372036854775808 ≤ slots[i].inventory - q → slots[i].inventory ≤ 9223372036854775807 →
          -9223372036854775808 ≤ slots[j].inventory → slots[j].inventory + q ≤ 9223372036854775807 →
          inventorySum ((slots.set i x).set j y) = inventorySum slots))))

/-- The steps of an allocation (R167 to R177). The rate read for a record's hour (R155); in INJECT and WITHDRAW each ACTIVE
shipper's interval quantity (R168), a counter-flow shipper's allocation within its bound and its cut (R169), the with-flow pool
and where it passes to slot 0 whole (R170), else its split by largest remainder with the caps, the cuts, the one redistribution
and what passes to slot 0 (R172, R173); a record in another mode, or flagged CLOCK_LOST, whole to slot 0. Then each slot's
inventory, losses by their weights (R175, R176) and day counters (R177), and the day site totals (R167). A quantity beyond its
width is free (notes/assumptions/5.md). -/
def Obligations.AllocationSteps : Prop :=
  (∀ (s : State) (x : IntervalRecord) (i : Fin 32), entriesSound s.nom →
    let h := (x.endTime - x.length) / 3600
    let rate := (s.ratesFor x)[i.succ]
    (∀ e ∈ s.nom.entries, e.slot = i.val + 1 → e.hour = h → e.state = .current → rate = e.confirmed) ∧
    ((∀ e ∈ s.nom.entries, ¬(e.slot = i.val + 1 ∧ e.hour = h ∧ e.state = .current)) →
      (∀ p, s.nom.previous = some p → rate = if p.hour = h then p.rates[i] else 0) ∧
      (s.nom.previous = none → rate = 0))) ∧
  (∀ (slots : Vector Slot 33) (rates : Vector Int 33) (x : IntervalRecord) (d : Int), x.lost = false →
    (x.mode = .inject ∧ d = 1) ∨ (x.mode = .withdraw ∧ d = -1) →
    let all := List.finRange 33
    let as := recordAllocations slots rates x
    let q (i : Fin 33) : Int :=
      if i ≠ 0 ∧ slots[i].state = .active then (rates[i] * x.length).tdiv 3600 else 0
    let bound (i : Fin 33) : Nat := (if 0 < q i then (slots[i].space : Int) - slots[i].inventory else slots[i].inventory).toNat
    let counter (i : Fin 33) : Bool := (q i).sign == -d
    let along (i : Fin 33) : Bool := (q i).sign == d
    let pool : Int := x.eNet - (all.map fun i => if counter i then -d * (min (q i).natAbs (bound i) : Nat) else 0).sum
    let split (total : Nat) (who : Fin 33 → Bool) (i : Fin 33) : Nat :=
      shareOf (splitParts total ((all.filter who).map fun j => (j, (q j).natAbs))) i
    let first := split pool.natAbs along
    let capped (i : Fin 33) : Bool := along i && decide (bound i < first i)
    let uncapped (i : Fin 33) : Bool := along i && !capped i
    let again := (all.map fun i => if capped i then first i - bound i else 0).sum
    let both (i : Fin 33) : Nat := first i + split again uncapped i
    (∀ i, i ≠ 0 → counter i = false → along i = false → as[i] = { amount := 0, cut := 0 }) ∧
    (∀ i, counter i = true →
      as[i] = { amount := -d * (min (q i).natAbs (bound i) : Nat), cut := (q i).natAbs - bound i }) ∧
    (pool.sign ≠ d ∨ (∀ i, along i = false) →
      as[(0 : Fin 33)] = { amount := pool, cut := 0 } ∧ ∀ i, along i = true → as[i] = { amount := 0, cut := 0 }) ∧
    (pool.sign = d → (∃ i, along i = true) →
      (∀ i, capped i = true → as[i] = { amount := d * bound i, cut := first i - bound i }) ∧
      (∀ i, uncapped i = true → as[i] = { amount := d * (min (both i) (bound i) : Nat), cut := 0 }) ∧
      as[(0 : Fin 33)] =
        { amount := d * ((all.map fun i => if uncapped i then both i - bound i else 0).sum +
                         if all.any uncapped then 0 else again : Nat)
          cut := 0 })) ∧
  (∀ (slots : Vector Slot 33) (rates : Vector Int 33) (x : IntervalRecord),
    x.lost = true ∨ (x.mode ≠ .inject ∧ x.mode ≠ .withdraw) →
    ∀ i : Fin 33, (recordAllocations slots rates x)[i] = { amount := if i = 0 then x.eNet else 0, cut := 0 }) ∧
  (∀ (rates : Vector Int 33) (x : IntervalRecord) (b : Book),
    let as := recordAllocations b.slots rates x
    let t := b.enter rates x
    let charged (amount : Nat) (weight : Fin 33 → Nat) (i : Fin 33) : Nat :=
      if x.lost = true ∨ (∀ j, weight j = 0) then (if i = 0 then amount else 0)
      else shareOf (splitParts amount (((List.finRange 33).filter fun j => decide (0 < weight j)).map fun j => (j, weight j))) i
    let fuel := charged x.eFuel.toNat fun j => as[j].amount.toNat
    let drying := charged x.eRegen.toNat fun j => (-as[j].amount).toNat
    t = { b with slots := t.slots, totals := t.totals, lastSeq := x.seq } ∧
    (∀ i : Fin 33,
      let sl := b.slots[i]
      let a := as[i]
      t.slots[i] = { sl with
        inventory := i64 (sl.inventory + a.amount)
        fuel := u63 (sl.fuel + fuel i)
        drying := u63 (sl.drying + drying i)
        day := { sl.day with
          injected := u63 (sl.day.injected + a.amount.toNat)
          withdrawn := u63 (sl.day.withdrawn + (-a.amount).toNat)
          fuel := u63 (sl.day.fuel + fuel i)
          drying := u63 (sl.day.drying + drying i)
          cut := u63 (sl.day.cut + a.cut) } }) ∧
    (let substituted : Prop := ∃ c : Fin 8, ∃ bit ∈ [5, 6, 7, 8], x.channels[c].flags.getLsbD bit = true
     t.totals.eNet = i64 (b.totals.eNet + x.eNet) ∧ t.totals.eFuel = i64 (b.totals.eFuel + x.eFuel) ∧
     t.totals.eRegen = i64 (b.totals.eRegen + x.eRegen) ∧ t.totals.records = u32 (b.totals.records + 1) ∧
     (substituted → t.totals.substituted = u32 (b.totals.substituted + 1)) ∧
     (¬substituted → t.totals.substituted = b.totals.substituted)) ∧
    (x.lost = true → b.take rates x = (t, false)))

/-- Allocation (R160, R171, R174) and the gas day (R179, R180): the allocations of a record sum to its E_net and leave every
shipper within its bounds; a split by largest remainder sums to its amount and gives each slot its floor or one more, the
largest remainders first; a loss is charged whole; the gas day of an instant and the boundaries (R60); a gas day closes on
its boundary, or at the first record of a later one, or both ways at one record, DAY_CLOSED raised at COM where it does (a
record that starts before the open gas day closes none, though it end on a boundary: notes/assumptions/24.md). -/
def Obligations.AllocationOfRecords : Prop :=
  (∀ (slots : Vector Slot 33) (rates : Vector Int 33) (x : IntervalRecord),
    let as := recordAllocations slots rates x
    ((List.finRange 33).map fun i => as[i].amount).sum = x.eNet ∧
    (x.lost = true ∨ (x.mode ≠ .inject ∧ x.mode ≠ .withdraw) → ∀ i : Fin 33, i ≠ 0 → as[i].amount = 0) ∧
    (∀ i : Fin 33, i ≠ 0 → slots[i].state ≠ .active → as[i].amount = 0 ∧ as[i].cut = 0) ∧
    (∀ i : Fin 33, i ≠ 0 → 0 ≤ slots[i].inventory → slots[i].inventory ≤ slots[i].space →
      0 ≤ slots[i].inventory + as[i].amount ∧ slots[i].inventory + as[i].amount ≤ slots[i].space) ∧
    ((∀ i : Fin 33, -9223372036854775808 ≤ slots[i].inventory + as[i].amount ∧
        slots[i].inventory + as[i].amount ≤ 9223372036854775807) →
      inventorySum (allocateSlots rates x slots) = inventorySum slots + x.eNet)) ∧
  (∀ (total : Nat) (weights : List (Fin 33 × Nat)), weights ≠ [] → (weights.map Prod.fst).Nodup →
    (∀ w ∈ weights, 0 < w.2) →
    let sum := (weights.map Prod.snd).sum
    let share (i : Fin 33) : Nat := shareOf (splitParts total weights) i
    (weights.map fun w => share w.1).sum = total ∧
    (∀ w ∈ weights, share w.1 = total * w.2 / sum ∨ share w.1 = total * w.2 / sum + 1) ∧
    (∀ v ∈ weights, ∀ w ∈ weights, share v.1 = total * v.2 / sum → share w.1 = total * w.2 / sum + 1 →
      total * v.2 % sum < total * w.2 % sum ∨ (total * v.2 % sum = total * w.2 % sum ∧ w.1 < v.1))) ∧
  (∀ (amount : Nat) (weight : Fin 33 → Nat),
    ((List.finRange 33).map fun i => splitLoss amount weight i).sum = amount) ∧
  (∀ g instant : Nat,
    let d : Int := instant - 3600 * g
    (onBoundary g instant = true ↔ ∃ n : Int, d = 86400 * n) ∧
    86400 * gasDay g instant ≤ d ∧ d < 86400 * (gasDay g instant + 1)) ∧
  (∀ (x : IntervalRecord) (s : State),
    let y := s.book.take (s.ratesFor x) x
    s.bookTakes x = { s with
      book := y.1
      ports := { s.ports with com := { s.ports.com with
        causes := if y.2 = true then s.ports.com.causes ||| 64#11 else s.ports.com.causes } } }) ∧
  (∀ (rates : Vector Int 33) (x : IntervalRecord) (b : Book) (g : Int), x.lost = false →
    let start := x.endTime - x.length
    let day := gasDay b.startHour start
    let ends := onBoundary b.startHour x.endTime = true
    let t := b.take rates x
    let entered := b.enter rates x
    (b.openDay = none → ¬ends → t = ({ entered with openDay := some day }, false)) ∧
    (b.openDay = none → ends → t.2 = true ∧ t.1.openDay = some (gasDay b.startHour x.endTime) ∧ t.1.totals = .zero ∧
      t.1.lastSeq = x.seq ∧
      t.1.dayRecords = b.dayRecords.drop (b.dayRecords.length - 7) ++
        [{ day := day, slots := Vector.ofFn fun i => (entered.slots[i].inventory, entered.slots[i].day),
           totals := entered.totals }] ∧
      ∀ i : Fin 33, t.1.slots[i] = { entered.slots[i] with day := .zero }) ∧
    (b.openDay = some g → day < g → t = (entered, false)) ∧
    (b.openDay = some g → day = g → ¬ends → t = (entered, false)) ∧
    (b.openDay = some g → day = g → ends →
      t.2 = true ∧ t.1.openDay = some (gasDay b.startHour x.endTime) ∧ t.1.totals = .zero ∧ t.1.lastSeq = x.seq ∧
      t.1.dayRecords = b.dayRecords.drop (b.dayRecords.length - 7) ++
        [{ day := g, slots := Vector.ofFn fun i => (entered.slots[i].inventory, entered.slots[i].day),
           totals := entered.totals }] ∧
      ∀ i : Fin 33, t.1.slots[i] = { entered.slots[i] with day := .zero }) ∧
    (b.openDay = some g → g < day → ¬ends →
      t.2 = true ∧ t.1.openDay = some day ∧ t.1.lastSeq = x.seq ∧ t.1.totals.records = 1 ∧
      t.1.dayRecords = b.dayRecords.drop (b.dayRecords.length - 7) ++
        [{ day := g, slots := Vector.ofFn fun i => (b.slots[i].inventory, b.slots[i].day), totals := b.totals }]) ∧
    (b.openDay = some g → g < day → ends →
      let later := (b.closeDay g).enter rates x
      t.2 = true ∧ t.1.openDay = some (gasDay b.startHour x.endTime) ∧ t.1.totals = .zero ∧ t.1.lastSeq = x.seq ∧
      t.1.dayRecords = b.dayRecords.drop (b.dayRecords.length - 6) ++
        [{ day := g, slots := Vector.ofFn fun i => (b.slots[i].inventory, b.slots[i].day), totals := b.totals },
         { day := day, slots := Vector.ofFn fun i => (later.slots[i].inventory, later.slots[i].day),
           totals := later.totals }] ∧
      later.totals.records = 1 ∧ ∀ i : Fin 33, t.1.slots[i] = { later.slots[i] with day := .zero }))

/-! ### Metrology, resets and start-up (chapters 3 and 11) -/

/-- SET_METROLOGY, CLEAR_METROLOGY_LIST and the seal (R46 to R48, R203 to R206): the checks in their order; the range of
every parameter; one entry a write, the image stored with its new content, a K-factor's residues rescaled, the marks of a
recovery, each channel calibrated by its K mark and all twenty site marks, and the image VALID, its marks discarded, exactly
at the write that completes them; the list cleared only with the seal OPEN. -/
def Obligations.MetrologyRequests : Prop :=
  (∀ (m : MetParams) (p : MetParam) (v : Int),
    ((m.write p v).isSome = true ↔
      match p with
      | .kp _ => 1000 ≤ v ∧ v ≤ 9999999
      | .pPoint _ | .tPoint _ => 0 ≤ v ∧ v ≤ 47
      | .pFallback _ => 50000 ≤ v ∧ v ≤ 30000000
      | .tFallback _ => 23315 ≤ v ∧ v ≤ 37315
      | .pb => 90000 ≤ v ∧ v ≤ 110000
      | .tb => 27315 ≤ v ∧ v ≤ 29315
      | .phaseTol => 0 ≤ v ∧ v ≤ 20
      | .singleMin => 1 ≤ v ∧ v ≤ 255
      | .zPressure k => (50000 ≤ v ∧ v ≤ 30000000) ∧
          (∀ j : Fin 8, j.val + 1 = k.val → m.z[j].1 < v) ∧ (∀ j : Fin 8, j.val = k.val + 1 → v < m.z[j].1)
      | .zRatio _ => 700000 ≤ v ∧ v ≤ 1100000) ∧
    (∀ q, m.write p v = some q → q.get p = v ∧ ∀ x, x ≠ p → q.get x = m.get x)) ∧
  (∀ (id channel : Int) (p : MetParam), metParam id channel = some p ↔
    id = p.id ∧ (∀ c : Fin 8, p.channel = some c → channel = c.val)) ∧
  (∀ (r : Request) (s : State) (id channel v : Int), s.takes .setMetrology r [id, channel, v] →
    let i : Instr := .setMetrology r
    (s.store.sealOpen = false → exec i s = .next (answered r .setMetrology .sealed [] s)) ∧
    (s.store.sealOpen = true → 64 ≤ s.store.changeList.length →
      exec i s = .next (answered r .setMetrology .listFull [] s)) ∧
    (s.store.sealOpen = true → s.store.changeList.length < 64 →
      (metParam id channel = none → exec i s = .next (answered r .setMetrology .refusedRange [] s)) ∧
      (∀ p, metParam id channel = some p →
        (s.metro.params.write p v = none → exec i s = .next (answered r .setMetrology .refusedRange [] s)) ∧
        (∀ q, s.metro.params.write p v = some q →
          let entry : ChangeEntry :=
            { clock := s.time.clock, lost := s.time.lost, param := p.id, channel := p.channel
              before := s.metro.params.get p, after := v }
          let list := s.store.changeList ++ [entry]
          ∃ (m : Metrology) (f : Flow), m.params = q ∧
            exec i s = .next (answered r .setMetrology .ok []
              { s with metro := m
                       flow := f
                       store := { s.store with metImage := some (metImage m), changeList := list }
                       ports := { s.ports with met := { s.ports.met with
                         causes := if 56 ≤ list.length then s.ports.met.causes ||| 512#11
                                   else s.ports.met.causes } } }) ∧
            (s.metro.valid = true → m = { s.metro with params := q }) ∧
            (s.metro.valid = false →
              let k := match p with
                | .kp c => s.metro.kMarks ||| BitVec.ofNat 8 (2 ^ c.val)
                | _ => s.metro.kMarks
              let site := if 5 ≤ p.id then s.metro.siteMarks ||| BitVec.ofNat 20 (2 ^ (p.id - 5)) else s.metro.siteMarks
              (m.valid = false → m.kMarks = k ∧ m.siteMarks = site) ∧
              (m.valid = true → m.kMarks = 0 ∧ m.siteMarks = 0) ∧
              (CalibrationInv s →
                (m.valid = true ↔ (∀ c : Fin 8, k.getLsbD c.val = true) ∧ ∀ b : Fin 20, site.getLsbD b.val = true) ∧
                ∀ c : Fin 8, m.calibrated.getLsbD c.val = true ↔
                  k.getLsbD c.val = true ∧ ∀ b : Fin 20, site.getLsbD b.val = true)) ∧
            f = (match p with
              | .kp c =>
                let old := s.flow.channels[c]
                let kOld := s.metro.params.channels[c].kp
                let new : PulseChannel :=
                  { old with volFwd := old.volFwd * v.toNat / kOld, volRev := old.volRev * v.toNat / kOld }
                { s.flow with channels := s.flow.channels.set c new }
              | _ => s.flow))))) ∧
  (∀ (r : Request) (s : State), s.takes .clearMetrologyList r [] →
    exec (.clearMetrologyList r) s = .next
      (if s.store.sealOpen = true then
        answered r .clearMetrologyList .ok (be 4 s.store.changeList.length)
          { s with store := { s.store with changeList := [] } }
       else answered r .clearMetrologyList .sealed [] s)) ∧
  (∀ (o : Bool) (s : State),
    exec (.sealInputChange o) s = .next ({ s with store := { s.store with sealOpen := o } } : State).driveOutputs)

/-- The resets (R57, R188, R201, R202, R206 to R208, Table 11-3): what each command of supply, reset input and RESTART
begins; every volatile state takes its reset value and the nonvolatile state is kept; start-up checks the two images;
the clock runs on, but for a power-on, which takes it from the backup supply or finds it LOST. When each command
acts, and the clock and last reset kind while the supply is absent, are the model's choice (notes/assumptions/4.md and
16.md). -/
def Obligations.Resets : Prop :=
  ∀ s : State,
    let begun (k : ResetKind) (t : State) : Prop :=
      s.keptThrough t ∧ t.atResetValues s.params ∧ t.params = s.params ∧ t.metro = s.metro ∧ t.store = s.store ∧
      t.power.phase = .inReset ∧ t.power.lastReset = k ∧ t.pending = s.pending
    let started (k : ResetKind) (t : State) : Prop :=
      s.keptThrough t ∧ t.atResetValues t.params ∧
      (∀ img, s.store.opImage = some img → img.crc = crc16 img.content.bytes →
        t.params = img.content ∧ t.store.opValid = true) ∧
      ((∀ img, s.store.opImage = some img → img.crc ≠ crc16 img.content.bytes) →
        t.params = .default ∧ t.store.opValid = false) ∧
      (∀ img, s.store.metImage = some img → img.crc = crc16 img.content.bytes →
        t.metro = img.content ∧ t.store.metImage = s.store.metImage) ∧
      ((∀ img, s.store.metImage = some img → img.crc ≠ crc16 img.content.bytes) →
        t.metro = .recovery ∧ t.store.metImage = some (metImage .recovery)) ∧
      t.power.phase = .startingUp ∧ t.power.lastReset = k ∧ t.store.sealOpen = s.store.sealOpen ∧ t.pending = s.pending
    let sameClock (t : State) : Prop := t.time.clock = s.time.clock ∧ t.time.lost = s.time.lost
    (∃ t, exec .powerFail s = .next t ∧ begun .powerOn t ∧ sameClock t ∧ t.power.supply = false ∧
      t.power.resetInput = s.power.resetInput) ∧
    (∀ backup,
      (s.power.supply = true → exec (.powerOn backup) s = .next s.driveOutputs) ∧
      (s.power.supply = false →
        ∃ t, exec (.powerOn backup) s = .next t ∧
          (if s.power.resetInput = true then begun .powerOn t else started .powerOn t) ∧
          t.power.supply = true ∧ t.power.resetInput = s.power.resetInput ∧
          (∀ v : BitVec 32, backup = some v → t.time.clock = v.toNat ∧ t.time.lost = false) ∧
          (backup = none → t.time.clock = 0 ∧ t.time.lost = true))) ∧
    (s.power.resetInput = true → exec .resetInputAssert s = .next s.driveOutputs) ∧
    (s.power.resetInput = false →
      (s.power.supply = false →
        exec .resetInputAssert s = .next ({ s with power := { s.power with resetInput := true } } : State).driveOutputs) ∧
      (s.power.supply = true →
        ∃ t, exec .resetInputAssert s = .next t ∧ begun .resetInput t ∧ sameClock t ∧ t.power.supply = true ∧
          t.power.resetInput = true)) ∧
    (s.power.resetInput = false → exec .resetInputRelease s = .next s.driveOutputs) ∧
    (s.power.resetInput = true →
      (s.power.supply = false →
        exec .resetInputRelease s = .next ({ s with power := { s.power with resetInput := false } } : State).driveOutputs) ∧
      (s.power.supply = true →
        ∃ t, exec .resetInputRelease s = .next t ∧ started s.power.lastReset t ∧ sameClock t ∧ t.power.supply = true ∧
          t.power.resetInput = false)) ∧
    (∀ r : Request, s.takes .restart r [] →
      exec (.restart r) s = .next (answered r .restart .ok []
        { s with power := { s.power with restart := .answering } })) ∧
    (s.running = false ∨ s.power.restart = .none → exec .restartReset s = .next s.driveOutputs) ∧
    (s.running = true → s.power.restart ≠ .none →
      ∃ t, exec .restartReset s = .next t ∧ started .restart t ∧ sameClock t ∧ t.power.supply = s.power.supply ∧
        t.power.resetInput = s.power.resetInput)

/-- The completion of start-up (R57, R65, R67, R158, R208): the SC6 runs, with elapsed time 0 and a SHORT interval open
behind one GAP record; a LOST clock raises CLOCK_LOST at every port and confirms nothing; a VALID one places the table;
under AUTO the wanted mode is set; every ENABLED channel has evaluated its source; the capacities are those of the state,
and where no channel latches a record under MANUAL, every unit and train stands as its in-service parameter says (R106,
R124), a COOLING tower of a train in service with a fresh T_tcool, a LOADED one HEATING where its partner does not
regenerate. That it acts in the start-up phase alone, and leaves the clock as it stands, is the model's choice
(notes/assumptions/4.md and 7.md); so is the AUTO evaluation before the channels' (29.md). -/
def Obligations.StartUpComplete : Prop :=
  ∀ (order : Order) (s : State),
    (s.power.phase ≠ .startingUp → exec (.startUpComplete order) s = .next s.driveOutputs) ∧
    (s.power.phase = .startingUp →
      let now := s.time.clock / 3600
      ∃ t, exec (.startUpComplete order) s = .next t ∧
        t.power = { s.power with phase := .running } ∧
        t.time = { s.time with elapsedMs := 0, openStart := s.time.clock, openTicks := 0, openShort := true } ∧
        t.survey = s.survey ∧ t.link = s.link ∧ t.book = s.book ∧ t.params = s.params ∧ t.metro = s.metro ∧
        t.store = s.store ∧ t.pending = s.pending ∧ t.flow.channels = s.flow.channels ∧
        t.flow.total = s.flow.nextSeq ∧
        t.flow.log = s.flow.log.drop (s.flow.log.length - 1439) ++
          [.gap s.flow.nextSeq s.time.clock (s.flow.log.getLast?.map LogRecord.endTime) s.time.lost] ∧
        t.flow.untaken = s.flow.untaken ∧
        (t.nom.injPot, t.nom.wdrPot, t.nom.injEff, t.nom.wdrEff) = t.figures ∧
        (s.params.siteControl = .manual → ResetInv s → t.prot.records = s.prot.records →
          t.nom.injPot = 0 ∧ t.nom.wdrPot = 0 ∧ t.nom.injEff = 0 ∧ t.nom.wdrEff = 0 ∧
          (∀ i : Fin 4, t.duty.units[i] = { s.duty.units[i] with
            state := if s.params.units[i].inService then .stopped else .outOfService
            timer := none
            inhibited := t.duty.units[i].inhibited }) ∧
          ∀ k : Fin 2, t.dryer.trains[k].state = (if s.params.trains[k].inService then .standby else .outOfService) ∧
            t.dryer.trains[k].dewHigh = false ∧
            ∀ i : Fin 2,
              let w := s.dryer.trains[k].towers[i]
              let other := s.dryer.trains[k].towers[partner i]
              (s.params.trains[k].inService = false ∨ (w.state ≠ .cooling ∧ w.state ≠ .loaded) →
                t.dryer.trains[k].towers[i] = w) ∧
              (s.params.trains[k].inService = true → w.state = .cooling →
                t.dryer.trains[k].towers[i] = { w with timer := some s.params.dryer.tTcool }) ∧
              (s.params.trains[k].inService = true → w.state = .loaded → other.state ≠ .loaded →
                t.dryer.trains[k].towers[i] = if other.state = .cooling then w
                  else { w with state := .heating, timer := some s.params.dryer.tHeat })) ∧
        (∀ p : Port, (t.ports.get p).causes.getLsbD 10 = ((s.ports.get p).causes.getLsbD 10 || s.time.lost)) ∧
        (s.time.lost = true → (∀ e ∈ t.nom.entries, e.confirmed = 0) ∧ t.nom.net = 0 ∧
          t.nom.current = s.nom.current ∧ t.nom.firm = s.nom.firm) ∧
        (s.time.lost = false →
          t.nom.current = now ∧ t.nom.previous = none ∧
          t.nom.firm = min (max s.nom.firm (now + s.params.leadTime)) (now + 23) ∧
          t.nom.summaries.map (·.hour) = (List.range 24).map (now + ·) ∧
          t.nom.entries.map (fun e => (e.slot, e.hour, e.requested)) =
            (s.nom.entries.filter fun e => decide (now ≤ e.hour ∧ e.hour ≤ now + 23)).map
              (fun e => (e.slot, e.hour, e.requested))) ∧
        (s.params.siteControl = .auto → t.move.wanted = wantedBy s.time.lost t.hourDirection) ∧
        (s.params.siteControl = .manual → t.move.wanted = s.move.wanted ∧
          (t.prot.latched .site = s.prot.latched .site → t.move.mode = s.move.mode)) ∧
        s.channelsAct (fun c => s.params.channels[c].enabled = true) t)

end
end

