-- ==== Sys2Proof/Laws/State.lean ====
section
/-! SUPPORT. What each update of the state leaves alone, one lemma a field, all true by unfolding and used by `simp`; and the
field that the update writes, where it is written as one expression. -/

namespace Sys2Proof.Machine

/-! `State.driveOutputs` (R15, R86, R108, R135, R192) writes `out` alone. -/

@[simp] theorem State.driveOutputs_power (s : State) : s.driveOutputs.power = s.power := rfl
@[simp] theorem State.driveOutputs_time (s : State) : s.driveOutputs.time = s.time := rfl
@[simp] theorem State.driveOutputs_survey (s : State) : s.driveOutputs.survey = s.survey := rfl
@[simp] theorem State.driveOutputs_link (s : State) : s.driveOutputs.link = s.link := rfl
@[simp] theorem State.driveOutputs_flow (s : State) : s.driveOutputs.flow = s.flow := rfl
@[simp] theorem State.driveOutputs_move (s : State) : s.driveOutputs.move = s.move := rfl
@[simp] theorem State.driveOutputs_duty (s : State) : s.driveOutputs.duty = s.duty := rfl
@[simp] theorem State.driveOutputs_dryer (s : State) : s.driveOutputs.dryer = s.dryer := rfl
@[simp] theorem State.driveOutputs_prot (s : State) : s.driveOutputs.prot = s.prot := rfl
@[simp] theorem State.driveOutputs_nom (s : State) : s.driveOutputs.nom = s.nom := rfl
@[simp] theorem State.driveOutputs_book (s : State) : s.driveOutputs.book = s.book := rfl
@[simp] theorem State.driveOutputs_ports (s : State) : s.driveOutputs.ports = s.ports := rfl
@[simp] theorem State.driveOutputs_params (s : State) : s.driveOutputs.params = s.params := rfl
@[simp] theorem State.driveOutputs_metro (s : State) : s.driveOutputs.metro = s.metro := rfl
@[simp] theorem State.driveOutputs_store (s : State) : s.driveOutputs.store = s.store := rfl
@[simp] theorem State.driveOutputs_pending (s : State) : s.driveOutputs.pending = s.pending := rfl

/-! `State.onPort` (chapter 10) writes `ports` alone. -/

@[simp] theorem State.onPort_power (p : Port) (f : PortState → PortState) (s : State) : (s.onPort p f).power = s.power := rfl
@[simp] theorem State.onPort_time (p : Port) (f : PortState → PortState) (s : State) : (s.onPort p f).time = s.time := rfl
@[simp] theorem State.onPort_survey (p : Port) (f : PortState → PortState) (s : State) : (s.onPort p f).survey = s.survey := rfl
@[simp] theorem State.onPort_link (p : Port) (f : PortState → PortState) (s : State) : (s.onPort p f).link = s.link := rfl
@[simp] theorem State.onPort_flow (p : Port) (f : PortState → PortState) (s : State) : (s.onPort p f).flow = s.flow := rfl
@[simp] theorem State.onPort_move (p : Port) (f : PortState → PortState) (s : State) : (s.onPort p f).move = s.move := rfl
@[simp] theorem State.onPort_duty (p : Port) (f : PortState → PortState) (s : State) : (s.onPort p f).duty = s.duty := rfl
@[simp] theorem State.onPort_dryer (p : Port) (f : PortState → PortState) (s : State) : (s.onPort p f).dryer = s.dryer := rfl
@[simp] theorem State.onPort_prot (p : Port) (f : PortState → PortState) (s : State) : (s.onPort p f).prot = s.prot := rfl
@[simp] theorem State.onPort_nom (p : Port) (f : PortState → PortState) (s : State) : (s.onPort p f).nom = s.nom := rfl
@[simp] theorem State.onPort_book (p : Port) (f : PortState → PortState) (s : State) : (s.onPort p f).book = s.book := rfl
@[simp] theorem State.onPort_params (p : Port) (f : PortState → PortState) (s : State) : (s.onPort p f).params = s.params := rfl
@[simp] theorem State.onPort_metro (p : Port) (f : PortState → PortState) (s : State) : (s.onPort p f).metro = s.metro := rfl
@[simp] theorem State.onPort_store (p : Port) (f : PortState → PortState) (s : State) : (s.onPort p f).store = s.store := rfl
@[simp] theorem State.onPort_out (p : Port) (f : PortState → PortState) (s : State) : (s.onPort p f).out = s.out := rfl
@[simp] theorem State.onPort_pending (p : Port) (f : PortState → PortState) (s : State) : (s.onPort p f).pending = s.pending := rfl

/-! `State.storeOp` (R201, R202) writes `params`, `store` alone. -/

@[simp] theorem State.storeOp_power (p : OpParams) (s : State) : (s.storeOp p).power = s.power := rfl
@[simp] theorem State.storeOp_time (p : OpParams) (s : State) : (s.storeOp p).time = s.time := rfl
@[simp] theorem State.storeOp_survey (p : OpParams) (s : State) : (s.storeOp p).survey = s.survey := rfl
@[simp] theorem State.storeOp_link (p : OpParams) (s : State) : (s.storeOp p).link = s.link := rfl
@[simp] theorem State.storeOp_flow (p : OpParams) (s : State) : (s.storeOp p).flow = s.flow := rfl
@[simp] theorem State.storeOp_move (p : OpParams) (s : State) : (s.storeOp p).move = s.move := rfl
@[simp] theorem State.storeOp_duty (p : OpParams) (s : State) : (s.storeOp p).duty = s.duty := rfl
@[simp] theorem State.storeOp_dryer (p : OpParams) (s : State) : (s.storeOp p).dryer = s.dryer := rfl
@[simp] theorem State.storeOp_prot (p : OpParams) (s : State) : (s.storeOp p).prot = s.prot := rfl
@[simp] theorem State.storeOp_nom (p : OpParams) (s : State) : (s.storeOp p).nom = s.nom := rfl
@[simp] theorem State.storeOp_book (p : OpParams) (s : State) : (s.storeOp p).book = s.book := rfl
@[simp] theorem State.storeOp_ports (p : OpParams) (s : State) : (s.storeOp p).ports = s.ports := rfl
@[simp] theorem State.storeOp_metro (p : OpParams) (s : State) : (s.storeOp p).metro = s.metro := rfl
@[simp] theorem State.storeOp_out (p : OpParams) (s : State) : (s.storeOp p).out = s.out := rfl
@[simp] theorem State.storeOp_pending (p : OpParams) (s : State) : (s.storeOp p).pending = s.pending := rfl

/-! `State.setPoint` (R33) writes `survey` alone. -/

@[simp] theorem State.setPoint_power (p : Fin 48) (v : PointState) (s : State) : (s.setPoint p v).power = s.power := rfl
@[simp] theorem State.setPoint_time (p : Fin 48) (v : PointState) (s : State) : (s.setPoint p v).time = s.time := rfl
@[simp] theorem State.setPoint_link (p : Fin 48) (v : PointState) (s : State) : (s.setPoint p v).link = s.link := rfl
@[simp] theorem State.setPoint_flow (p : Fin 48) (v : PointState) (s : State) : (s.setPoint p v).flow = s.flow := rfl
@[simp] theorem State.setPoint_move (p : Fin 48) (v : PointState) (s : State) : (s.setPoint p v).move = s.move := rfl
@[simp] theorem State.setPoint_duty (p : Fin 48) (v : PointState) (s : State) : (s.setPoint p v).duty = s.duty := rfl
@[simp] theorem State.setPoint_dryer (p : Fin 48) (v : PointState) (s : State) : (s.setPoint p v).dryer = s.dryer := rfl
@[simp] theorem State.setPoint_prot (p : Fin 48) (v : PointState) (s : State) : (s.setPoint p v).prot = s.prot := rfl
@[simp] theorem State.setPoint_nom (p : Fin 48) (v : PointState) (s : State) : (s.setPoint p v).nom = s.nom := rfl
@[simp] theorem State.setPoint_book (p : Fin 48) (v : PointState) (s : State) : (s.setPoint p v).book = s.book := rfl
@[simp] theorem State.setPoint_ports (p : Fin 48) (v : PointState) (s : State) : (s.setPoint p v).ports = s.ports := rfl
@[simp] theorem State.setPoint_params (p : Fin 48) (v : PointState) (s : State) : (s.setPoint p v).params = s.params := rfl
@[simp] theorem State.setPoint_metro (p : Fin 48) (v : PointState) (s : State) : (s.setPoint p v).metro = s.metro := rfl
@[simp] theorem State.setPoint_store (p : Fin 48) (v : PointState) (s : State) : (s.setPoint p v).store = s.store := rfl
@[simp] theorem State.setPoint_out (p : Fin 48) (v : PointState) (s : State) : (s.setPoint p v).out = s.out := rfl
@[simp] theorem State.setPoint_pending (p : Fin 48) (v : PointState) (s : State) : (s.setPoint p v).pending = s.pending := rfl

/-! `State.reportPass` (R30) writes `survey` alone. -/

@[simp] theorem State.reportPass_power (s : State) : s.reportPass.power = s.power := rfl
@[simp] theorem State.reportPass_time (s : State) : s.reportPass.time = s.time := rfl
@[simp] theorem State.reportPass_link (s : State) : s.reportPass.link = s.link := rfl
@[simp] theorem State.reportPass_flow (s : State) : s.reportPass.flow = s.flow := rfl
@[simp] theorem State.reportPass_move (s : State) : s.reportPass.move = s.move := rfl
@[simp] theorem State.reportPass_duty (s : State) : s.reportPass.duty = s.duty := rfl
@[simp] theorem State.reportPass_dryer (s : State) : s.reportPass.dryer = s.dryer := rfl
@[simp] theorem State.reportPass_prot (s : State) : s.reportPass.prot = s.prot := rfl
@[simp] theorem State.reportPass_nom (s : State) : s.reportPass.nom = s.nom := rfl
@[simp] theorem State.reportPass_book (s : State) : s.reportPass.book = s.book := rfl
@[simp] theorem State.reportPass_ports (s : State) : s.reportPass.ports = s.ports := rfl
@[simp] theorem State.reportPass_params (s : State) : s.reportPass.params = s.params := rfl
@[simp] theorem State.reportPass_metro (s : State) : s.reportPass.metro = s.metro := rfl
@[simp] theorem State.reportPass_store (s : State) : s.reportPass.store = s.store := rfl
@[simp] theorem State.reportPass_out (s : State) : s.reportPass.out = s.out := rfl
@[simp] theorem State.reportPass_pending (s : State) : s.reportPass.pending = s.pending := rfl

/-! `State.deriveMovement` (R12, R13, R19) writes `move` alone. -/

@[simp] theorem State.deriveMovement_power (s : State) : s.deriveMovement.power = s.power := rfl
@[simp] theorem State.deriveMovement_time (s : State) : s.deriveMovement.time = s.time := rfl
@[simp] theorem State.deriveMovement_survey (s : State) : s.deriveMovement.survey = s.survey := rfl
@[simp] theorem State.deriveMovement_link (s : State) : s.deriveMovement.link = s.link := rfl
@[simp] theorem State.deriveMovement_flow (s : State) : s.deriveMovement.flow = s.flow := rfl
@[simp] theorem State.deriveMovement_duty (s : State) : s.deriveMovement.duty = s.duty := rfl
@[simp] theorem State.deriveMovement_dryer (s : State) : s.deriveMovement.dryer = s.dryer := rfl
@[simp] theorem State.deriveMovement_prot (s : State) : s.deriveMovement.prot = s.prot := rfl
@[simp] theorem State.deriveMovement_nom (s : State) : s.deriveMovement.nom = s.nom := rfl
@[simp] theorem State.deriveMovement_book (s : State) : s.deriveMovement.book = s.book := rfl
@[simp] theorem State.deriveMovement_ports (s : State) : s.deriveMovement.ports = s.ports := rfl
@[simp] theorem State.deriveMovement_params (s : State) : s.deriveMovement.params = s.params := rfl
@[simp] theorem State.deriveMovement_metro (s : State) : s.deriveMovement.metro = s.metro := rfl
@[simp] theorem State.deriveMovement_store (s : State) : s.deriveMovement.store = s.store := rfl
@[simp] theorem State.deriveMovement_out (s : State) : s.deriveMovement.out = s.out := rfl
@[simp] theorem State.deriveMovement_pending (s : State) : s.deriveMovement.pending = s.pending := rfl

/-! `State.evalInhibit` (R94) writes `duty` alone. -/

@[simp] theorem State.evalInhibit_power (s : State) : s.evalInhibit.power = s.power := rfl
@[simp] theorem State.evalInhibit_time (s : State) : s.evalInhibit.time = s.time := rfl
@[simp] theorem State.evalInhibit_survey (s : State) : s.evalInhibit.survey = s.survey := rfl
@[simp] theorem State.evalInhibit_link (s : State) : s.evalInhibit.link = s.link := rfl
@[simp] theorem State.evalInhibit_flow (s : State) : s.evalInhibit.flow = s.flow := rfl
@[simp] theorem State.evalInhibit_move (s : State) : s.evalInhibit.move = s.move := rfl
@[simp] theorem State.evalInhibit_dryer (s : State) : s.evalInhibit.dryer = s.dryer := rfl
@[simp] theorem State.evalInhibit_prot (s : State) : s.evalInhibit.prot = s.prot := rfl
@[simp] theorem State.evalInhibit_nom (s : State) : s.evalInhibit.nom = s.nom := rfl
@[simp] theorem State.evalInhibit_book (s : State) : s.evalInhibit.book = s.book := rfl
@[simp] theorem State.evalInhibit_ports (s : State) : s.evalInhibit.ports = s.ports := rfl
@[simp] theorem State.evalInhibit_params (s : State) : s.evalInhibit.params = s.params := rfl
@[simp] theorem State.evalInhibit_metro (s : State) : s.evalInhibit.metro = s.metro := rfl
@[simp] theorem State.evalInhibit_store (s : State) : s.evalInhibit.store = s.store := rfl
@[simp] theorem State.evalInhibit_out (s : State) : s.evalInhibit.out = s.out := rfl
@[simp] theorem State.evalInhibit_pending (s : State) : s.evalInhibit.pending = s.pending := rfl

/-! `State.react` (R97 to R100) writes `duty` alone. -/

@[simp] theorem State.react_power (s : State) : s.react.power = s.power := rfl
@[simp] theorem State.react_time (s : State) : s.react.time = s.time := rfl
@[simp] theorem State.react_survey (s : State) : s.react.survey = s.survey := rfl
@[simp] theorem State.react_link (s : State) : s.react.link = s.link := rfl
@[simp] theorem State.react_flow (s : State) : s.react.flow = s.flow := rfl
@[simp] theorem State.react_move (s : State) : s.react.move = s.move := rfl
@[simp] theorem State.react_dryer (s : State) : s.react.dryer = s.dryer := rfl
@[simp] theorem State.react_prot (s : State) : s.react.prot = s.prot := rfl
@[simp] theorem State.react_nom (s : State) : s.react.nom = s.nom := rfl
@[simp] theorem State.react_book (s : State) : s.react.book = s.book := rfl
@[simp] theorem State.react_ports (s : State) : s.react.ports = s.ports := rfl
@[simp] theorem State.react_params (s : State) : s.react.params = s.params := rfl
@[simp] theorem State.react_metro (s : State) : s.react.metro = s.metro := rfl
@[simp] theorem State.react_store (s : State) : s.react.store = s.store := rfl
@[simp] theorem State.react_out (s : State) : s.react.out = s.out := rfl
@[simp] theorem State.react_pending (s : State) : s.react.pending = s.pending := rfl

/-! `State.confirm` (R154, R156) writes `nom`, `ports` alone. -/

@[simp] theorem State.confirm_power (sel : Nat → Bool) (n : Nominations) (s : State) : (s.confirm sel n).power = s.power := rfl
@[simp] theorem State.confirm_time (sel : Nat → Bool) (n : Nominations) (s : State) : (s.confirm sel n).time = s.time := rfl
@[simp] theorem State.confirm_survey (sel : Nat → Bool) (n : Nominations) (s : State) : (s.confirm sel n).survey = s.survey := rfl
@[simp] theorem State.confirm_link (sel : Nat → Bool) (n : Nominations) (s : State) : (s.confirm sel n).link = s.link := rfl
@[simp] theorem State.confirm_flow (sel : Nat → Bool) (n : Nominations) (s : State) : (s.confirm sel n).flow = s.flow := rfl
@[simp] theorem State.confirm_move (sel : Nat → Bool) (n : Nominations) (s : State) : (s.confirm sel n).move = s.move := rfl
@[simp] theorem State.confirm_duty (sel : Nat → Bool) (n : Nominations) (s : State) : (s.confirm sel n).duty = s.duty := rfl
@[simp] theorem State.confirm_dryer (sel : Nat → Bool) (n : Nominations) (s : State) : (s.confirm sel n).dryer = s.dryer := rfl
@[simp] theorem State.confirm_prot (sel : Nat → Bool) (n : Nominations) (s : State) : (s.confirm sel n).prot = s.prot := rfl
@[simp] theorem State.confirm_book (sel : Nat → Bool) (n : Nominations) (s : State) : (s.confirm sel n).book = s.book := rfl
@[simp] theorem State.confirm_params (sel : Nat → Bool) (n : Nominations) (s : State) : (s.confirm sel n).params = s.params := rfl
@[simp] theorem State.confirm_metro (sel : Nat → Bool) (n : Nominations) (s : State) : (s.confirm sel n).metro = s.metro := rfl
@[simp] theorem State.confirm_store (sel : Nat → Bool) (n : Nominations) (s : State) : (s.confirm sel n).store = s.store := rfl
@[simp] theorem State.confirm_out (sel : Nat → Bool) (n : Nominations) (s : State) : (s.confirm sel n).out = s.out := rfl
@[simp] theorem State.confirm_pending (sel : Nat → Bool) (n : Nominations) (s : State) : (s.confirm sel n).pending = s.pending := rfl

/-! `State.deriveTrain` (R109) writes `dryer` alone. -/

@[simp] theorem State.deriveTrain_power (t : Fin 2) (s : State) : (s.deriveTrain t).power = s.power := rfl
@[simp] theorem State.deriveTrain_time (t : Fin 2) (s : State) : (s.deriveTrain t).time = s.time := rfl
@[simp] theorem State.deriveTrain_survey (t : Fin 2) (s : State) : (s.deriveTrain t).survey = s.survey := rfl
@[simp] theorem State.deriveTrain_link (t : Fin 2) (s : State) : (s.deriveTrain t).link = s.link := rfl
@[simp] theorem State.deriveTrain_flow (t : Fin 2) (s : State) : (s.deriveTrain t).flow = s.flow := rfl
@[simp] theorem State.deriveTrain_move (t : Fin 2) (s : State) : (s.deriveTrain t).move = s.move := rfl
@[simp] theorem State.deriveTrain_duty (t : Fin 2) (s : State) : (s.deriveTrain t).duty = s.duty := rfl
@[simp] theorem State.deriveTrain_prot (t : Fin 2) (s : State) : (s.deriveTrain t).prot = s.prot := rfl
@[simp] theorem State.deriveTrain_nom (t : Fin 2) (s : State) : (s.deriveTrain t).nom = s.nom := rfl
@[simp] theorem State.deriveTrain_book (t : Fin 2) (s : State) : (s.deriveTrain t).book = s.book := rfl
@[simp] theorem State.deriveTrain_ports (t : Fin 2) (s : State) : (s.deriveTrain t).ports = s.ports := rfl
@[simp] theorem State.deriveTrain_params (t : Fin 2) (s : State) : (s.deriveTrain t).params = s.params := rfl
@[simp] theorem State.deriveTrain_metro (t : Fin 2) (s : State) : (s.deriveTrain t).metro = s.metro := rfl
@[simp] theorem State.deriveTrain_store (t : Fin 2) (s : State) : (s.deriveTrain t).store = s.store := rfl
@[simp] theorem State.deriveTrain_out (t : Fin 2) (s : State) : (s.deriveTrain t).out = s.out := rfl
@[simp] theorem State.deriveTrain_pending (t : Fin 2) (s : State) : (s.deriveTrain t).pending = s.pending := rfl

/-! `State.deriveTrains` (R109) writes `dryer` alone. -/

@[simp] theorem State.deriveTrains_power (s : State) : s.deriveTrains.power = s.power := rfl
@[simp] theorem State.deriveTrains_time (s : State) : s.deriveTrains.time = s.time := rfl
@[simp] theorem State.deriveTrains_survey (s : State) : s.deriveTrains.survey = s.survey := rfl
@[simp] theorem State.deriveTrains_link (s : State) : s.deriveTrains.link = s.link := rfl
@[simp] theorem State.deriveTrains_flow (s : State) : s.deriveTrains.flow = s.flow := rfl
@[simp] theorem State.deriveTrains_move (s : State) : s.deriveTrains.move = s.move := rfl
@[simp] theorem State.deriveTrains_duty (s : State) : s.deriveTrains.duty = s.duty := rfl
@[simp] theorem State.deriveTrains_prot (s : State) : s.deriveTrains.prot = s.prot := rfl
@[simp] theorem State.deriveTrains_nom (s : State) : s.deriveTrains.nom = s.nom := rfl
@[simp] theorem State.deriveTrains_book (s : State) : s.deriveTrains.book = s.book := rfl
@[simp] theorem State.deriveTrains_ports (s : State) : s.deriveTrains.ports = s.ports := rfl
@[simp] theorem State.deriveTrains_params (s : State) : s.deriveTrains.params = s.params := rfl
@[simp] theorem State.deriveTrains_metro (s : State) : s.deriveTrains.metro = s.metro := rfl
@[simp] theorem State.deriveTrains_store (s : State) : s.deriveTrains.store = s.store := rfl
@[simp] theorem State.deriveTrains_out (s : State) : s.deriveTrains.out = s.out := rfl
@[simp] theorem State.deriveTrains_pending (s : State) : s.deriveTrains.pending = s.pending := rfl

/-! `State.onTrain` (chapter 6) writes `dryer` alone. -/

@[simp] theorem State.onTrain_power (t : Fin 2) (f : TrainEnv → Train → Train) (s : State) : (s.onTrain t f).power = s.power := rfl
@[simp] theorem State.onTrain_time (t : Fin 2) (f : TrainEnv → Train → Train) (s : State) : (s.onTrain t f).time = s.time := rfl
@[simp] theorem State.onTrain_survey (t : Fin 2) (f : TrainEnv → Train → Train) (s : State) : (s.onTrain t f).survey = s.survey := rfl
@[simp] theorem State.onTrain_link (t : Fin 2) (f : TrainEnv → Train → Train) (s : State) : (s.onTrain t f).link = s.link := rfl
@[simp] theorem State.onTrain_flow (t : Fin 2) (f : TrainEnv → Train → Train) (s : State) : (s.onTrain t f).flow = s.flow := rfl
@[simp] theorem State.onTrain_move (t : Fin 2) (f : TrainEnv → Train → Train) (s : State) : (s.onTrain t f).move = s.move := rfl
@[simp] theorem State.onTrain_duty (t : Fin 2) (f : TrainEnv → Train → Train) (s : State) : (s.onTrain t f).duty = s.duty := rfl
@[simp] theorem State.onTrain_prot (t : Fin 2) (f : TrainEnv → Train → Train) (s : State) : (s.onTrain t f).prot = s.prot := rfl
@[simp] theorem State.onTrain_nom (t : Fin 2) (f : TrainEnv → Train → Train) (s : State) : (s.onTrain t f).nom = s.nom := rfl
@[simp] theorem State.onTrain_book (t : Fin 2) (f : TrainEnv → Train → Train) (s : State) : (s.onTrain t f).book = s.book := rfl
@[simp] theorem State.onTrain_ports (t : Fin 2) (f : TrainEnv → Train → Train) (s : State) : (s.onTrain t f).ports = s.ports := rfl
@[simp] theorem State.onTrain_params (t : Fin 2) (f : TrainEnv → Train → Train) (s : State) : (s.onTrain t f).params = s.params := rfl
@[simp] theorem State.onTrain_metro (t : Fin 2) (f : TrainEnv → Train → Train) (s : State) : (s.onTrain t f).metro = s.metro := rfl
@[simp] theorem State.onTrain_store (t : Fin 2) (f : TrainEnv → Train → Train) (s : State) : (s.onTrain t f).store = s.store := rfl
@[simp] theorem State.onTrain_out (t : Fin 2) (f : TrainEnv → Train → Train) (s : State) : (s.onTrain t f).out = s.out := rfl
@[simp] theorem State.onTrain_pending (t : Fin 2) (f : TrainEnv → Train → Train) (s : State) : (s.onTrain t f).pending = s.pending := rfl

/-! `State.dewActions` (R112) writes `dryer` alone. -/

@[simp] theorem State.dewActions_power (p : Fin 48) (s : State) : (s.dewActions p).power = s.power := rfl
@[simp] theorem State.dewActions_time (p : Fin 48) (s : State) : (s.dewActions p).time = s.time := rfl
@[simp] theorem State.dewActions_survey (p : Fin 48) (s : State) : (s.dewActions p).survey = s.survey := rfl
@[simp] theorem State.dewActions_link (p : Fin 48) (s : State) : (s.dewActions p).link = s.link := rfl
@[simp] theorem State.dewActions_flow (p : Fin 48) (s : State) : (s.dewActions p).flow = s.flow := rfl
@[simp] theorem State.dewActions_move (p : Fin 48) (s : State) : (s.dewActions p).move = s.move := rfl
@[simp] theorem State.dewActions_duty (p : Fin 48) (s : State) : (s.dewActions p).duty = s.duty := rfl
@[simp] theorem State.dewActions_prot (p : Fin 48) (s : State) : (s.dewActions p).prot = s.prot := rfl
@[simp] theorem State.dewActions_nom (p : Fin 48) (s : State) : (s.dewActions p).nom = s.nom := rfl
@[simp] theorem State.dewActions_book (p : Fin 48) (s : State) : (s.dewActions p).book = s.book := rfl
@[simp] theorem State.dewActions_ports (p : Fin 48) (s : State) : (s.dewActions p).ports = s.ports := rfl
@[simp] theorem State.dewActions_params (p : Fin 48) (s : State) : (s.dewActions p).params = s.params := rfl
@[simp] theorem State.dewActions_metro (p : Fin 48) (s : State) : (s.dewActions p).metro = s.metro := rfl
@[simp] theorem State.dewActions_store (p : Fin 48) (s : State) : (s.dewActions p).store = s.store := rfl
@[simp] theorem State.dewActions_out (p : Fin 48) (s : State) : (s.dewActions p).out = s.out := rfl
@[simp] theorem State.dewActions_pending (p : Fin 48) (s : State) : (s.dewActions p).pending = s.pending := rfl

/-! `State.enterAdvisory` (R133) writes `prot`, `ports` alone. -/

@[simp] theorem State.enterAdvisory_power (c : Fin 32) (s : State) : (s.enterAdvisory c).power = s.power := rfl
@[simp] theorem State.enterAdvisory_time (c : Fin 32) (s : State) : (s.enterAdvisory c).time = s.time := rfl
@[simp] theorem State.enterAdvisory_survey (c : Fin 32) (s : State) : (s.enterAdvisory c).survey = s.survey := rfl
@[simp] theorem State.enterAdvisory_link (c : Fin 32) (s : State) : (s.enterAdvisory c).link = s.link := rfl
@[simp] theorem State.enterAdvisory_flow (c : Fin 32) (s : State) : (s.enterAdvisory c).flow = s.flow := rfl
@[simp] theorem State.enterAdvisory_move (c : Fin 32) (s : State) : (s.enterAdvisory c).move = s.move := rfl
@[simp] theorem State.enterAdvisory_duty (c : Fin 32) (s : State) : (s.enterAdvisory c).duty = s.duty := rfl
@[simp] theorem State.enterAdvisory_dryer (c : Fin 32) (s : State) : (s.enterAdvisory c).dryer = s.dryer := rfl
@[simp] theorem State.enterAdvisory_nom (c : Fin 32) (s : State) : (s.enterAdvisory c).nom = s.nom := rfl
@[simp] theorem State.enterAdvisory_book (c : Fin 32) (s : State) : (s.enterAdvisory c).book = s.book := rfl
@[simp] theorem State.enterAdvisory_params (c : Fin 32) (s : State) : (s.enterAdvisory c).params = s.params := rfl
@[simp] theorem State.enterAdvisory_metro (c : Fin 32) (s : State) : (s.enterAdvisory c).metro = s.metro := rfl
@[simp] theorem State.enterAdvisory_store (c : Fin 32) (s : State) : (s.enterAdvisory c).store = s.store := rfl
@[simp] theorem State.enterAdvisory_out (c : Fin 32) (s : State) : (s.enterAdvisory c).out = s.out := rfl
@[simp] theorem State.enterAdvisory_pending (c : Fin 32) (s : State) : (s.enterAdvisory c).pending = s.pending := rfl

/-! `State.bookTakes` (R167, R179, R180) writes `book`, `ports` alone. -/

@[simp] theorem State.bookTakes_power (r : IntervalRecord) (s : State) : (s.bookTakes r).power = s.power := rfl
@[simp] theorem State.bookTakes_time (r : IntervalRecord) (s : State) : (s.bookTakes r).time = s.time := rfl
@[simp] theorem State.bookTakes_survey (r : IntervalRecord) (s : State) : (s.bookTakes r).survey = s.survey := rfl
@[simp] theorem State.bookTakes_link (r : IntervalRecord) (s : State) : (s.bookTakes r).link = s.link := rfl
@[simp] theorem State.bookTakes_flow (r : IntervalRecord) (s : State) : (s.bookTakes r).flow = s.flow := rfl
@[simp] theorem State.bookTakes_move (r : IntervalRecord) (s : State) : (s.bookTakes r).move = s.move := rfl
@[simp] theorem State.bookTakes_duty (r : IntervalRecord) (s : State) : (s.bookTakes r).duty = s.duty := rfl
@[simp] theorem State.bookTakes_dryer (r : IntervalRecord) (s : State) : (s.bookTakes r).dryer = s.dryer := rfl
@[simp] theorem State.bookTakes_prot (r : IntervalRecord) (s : State) : (s.bookTakes r).prot = s.prot := rfl
@[simp] theorem State.bookTakes_nom (r : IntervalRecord) (s : State) : (s.bookTakes r).nom = s.nom := rfl
@[simp] theorem State.bookTakes_params (r : IntervalRecord) (s : State) : (s.bookTakes r).params = s.params := rfl
@[simp] theorem State.bookTakes_metro (r : IntervalRecord) (s : State) : (s.bookTakes r).metro = s.metro := rfl
@[simp] theorem State.bookTakes_store (r : IntervalRecord) (s : State) : (s.bookTakes r).store = s.store := rfl
@[simp] theorem State.bookTakes_out (r : IntervalRecord) (s : State) : (s.bookTakes r).out = s.out := rfl
@[simp] theorem State.bookTakes_pending (r : IntervalRecord) (s : State) : (s.bookTakes r).pending = s.pending := rfl

/-! `State.openInterval` (R58) writes `time` alone. -/

@[simp] theorem State.openInterval_power (short : Bool) (s : State) : (s.openInterval short).power = s.power := rfl
@[simp] theorem State.openInterval_survey (short : Bool) (s : State) : (s.openInterval short).survey = s.survey := rfl
@[simp] theorem State.openInterval_link (short : Bool) (s : State) : (s.openInterval short).link = s.link := rfl
@[simp] theorem State.openInterval_flow (short : Bool) (s : State) : (s.openInterval short).flow = s.flow := rfl
@[simp] theorem State.openInterval_move (short : Bool) (s : State) : (s.openInterval short).move = s.move := rfl
@[simp] theorem State.openInterval_duty (short : Bool) (s : State) : (s.openInterval short).duty = s.duty := rfl
@[simp] theorem State.openInterval_dryer (short : Bool) (s : State) : (s.openInterval short).dryer = s.dryer := rfl
@[simp] theorem State.openInterval_prot (short : Bool) (s : State) : (s.openInterval short).prot = s.prot := rfl
@[simp] theorem State.openInterval_nom (short : Bool) (s : State) : (s.openInterval short).nom = s.nom := rfl
@[simp] theorem State.openInterval_book (short : Bool) (s : State) : (s.openInterval short).book = s.book := rfl
@[simp] theorem State.openInterval_ports (short : Bool) (s : State) : (s.openInterval short).ports = s.ports := rfl
@[simp] theorem State.openInterval_params (short : Bool) (s : State) : (s.openInterval short).params = s.params := rfl
@[simp] theorem State.openInterval_metro (short : Bool) (s : State) : (s.openInterval short).metro = s.metro := rfl
@[simp] theorem State.openInterval_store (short : Bool) (s : State) : (s.openInterval short).store = s.store := rfl
@[simp] theorem State.openInterval_out (short : Bool) (s : State) : (s.openInterval short).out = s.out := rfl
@[simp] theorem State.openInterval_pending (short : Bool) (s : State) : (s.openInterval short).pending = s.pending := rfl

/-! `State.writeGap` (R65) writes `flow` alone. -/

@[simp] theorem State.writeGap_power (s : State) : s.writeGap.power = s.power := by simp only [State.writeGap]
@[simp] theorem State.writeGap_time (s : State) : s.writeGap.time = s.time := by simp only [State.writeGap]
@[simp] theorem State.writeGap_survey (s : State) : s.writeGap.survey = s.survey := by simp only [State.writeGap]
@[simp] theorem State.writeGap_link (s : State) : s.writeGap.link = s.link := by simp only [State.writeGap]
@[simp] theorem State.writeGap_move (s : State) : s.writeGap.move = s.move := by simp only [State.writeGap]
@[simp] theorem State.writeGap_duty (s : State) : s.writeGap.duty = s.duty := by simp only [State.writeGap]
@[simp] theorem State.writeGap_dryer (s : State) : s.writeGap.dryer = s.dryer := by simp only [State.writeGap]
@[simp] theorem State.writeGap_prot (s : State) : s.writeGap.prot = s.prot := by simp only [State.writeGap]
@[simp] theorem State.writeGap_nom (s : State) : s.writeGap.nom = s.nom := by simp only [State.writeGap]
@[simp] theorem State.writeGap_book (s : State) : s.writeGap.book = s.book := by simp only [State.writeGap]
@[simp] theorem State.writeGap_ports (s : State) : s.writeGap.ports = s.ports := by simp only [State.writeGap]
@[simp] theorem State.writeGap_params (s : State) : s.writeGap.params = s.params := by simp only [State.writeGap]
@[simp] theorem State.writeGap_metro (s : State) : s.writeGap.metro = s.metro := by simp only [State.writeGap]
@[simp] theorem State.writeGap_store (s : State) : s.writeGap.store = s.store := by simp only [State.writeGap]
@[simp] theorem State.writeGap_out (s : State) : s.writeGap.out = s.out := by simp only [State.writeGap]
@[simp] theorem State.writeGap_pending (s : State) : s.writeGap.pending = s.pending := by simp only [State.writeGap]

/-! `State.raiseClockLost` (R57) writes `ports` alone. -/

@[simp] theorem State.raiseClockLost_power (s : State) : s.raiseClockLost.power = s.power := rfl
@[simp] theorem State.raiseClockLost_time (s : State) : s.raiseClockLost.time = s.time := rfl
@[simp] theorem State.raiseClockLost_survey (s : State) : s.raiseClockLost.survey = s.survey := rfl
@[simp] theorem State.raiseClockLost_link (s : State) : s.raiseClockLost.link = s.link := rfl
@[simp] theorem State.raiseClockLost_flow (s : State) : s.raiseClockLost.flow = s.flow := rfl
@[simp] theorem State.raiseClockLost_move (s : State) : s.raiseClockLost.move = s.move := rfl
@[simp] theorem State.raiseClockLost_duty (s : State) : s.raiseClockLost.duty = s.duty := rfl
@[simp] theorem State.raiseClockLost_dryer (s : State) : s.raiseClockLost.dryer = s.dryer := rfl
@[simp] theorem State.raiseClockLost_prot (s : State) : s.raiseClockLost.prot = s.prot := rfl
@[simp] theorem State.raiseClockLost_nom (s : State) : s.raiseClockLost.nom = s.nom := rfl
@[simp] theorem State.raiseClockLost_book (s : State) : s.raiseClockLost.book = s.book := rfl
@[simp] theorem State.raiseClockLost_params (s : State) : s.raiseClockLost.params = s.params := rfl
@[simp] theorem State.raiseClockLost_metro (s : State) : s.raiseClockLost.metro = s.metro := rfl
@[simp] theorem State.raiseClockLost_store (s : State) : s.raiseClockLost.store = s.store := rfl
@[simp] theorem State.raiseClockLost_out (s : State) : s.raiseClockLost.out = s.out := rfl
@[simp] theorem State.raiseClockLost_pending (s : State) : s.raiseClockLost.pending = s.pending := rfl

/-! `State.passMs` (R71, R72, R128) writes `time`, `prot`, `link` alone. -/

@[simp] theorem State.passMs_power (d : Nat) (s : State) : (s.passMs d).power = s.power := rfl
@[simp] theorem State.passMs_survey (d : Nat) (s : State) : (s.passMs d).survey = s.survey := rfl
@[simp] theorem State.passMs_flow (d : Nat) (s : State) : (s.passMs d).flow = s.flow := rfl
@[simp] theorem State.passMs_move (d : Nat) (s : State) : (s.passMs d).move = s.move := rfl
@[simp] theorem State.passMs_duty (d : Nat) (s : State) : (s.passMs d).duty = s.duty := rfl
@[simp] theorem State.passMs_dryer (d : Nat) (s : State) : (s.passMs d).dryer = s.dryer := rfl
@[simp] theorem State.passMs_nom (d : Nat) (s : State) : (s.passMs d).nom = s.nom := rfl
@[simp] theorem State.passMs_book (d : Nat) (s : State) : (s.passMs d).book = s.book := rfl
@[simp] theorem State.passMs_ports (d : Nat) (s : State) : (s.passMs d).ports = s.ports := rfl
@[simp] theorem State.passMs_params (d : Nat) (s : State) : (s.passMs d).params = s.params := rfl
@[simp] theorem State.passMs_metro (d : Nat) (s : State) : (s.passMs d).metro = s.metro := rfl
@[simp] theorem State.passMs_store (d : Nat) (s : State) : (s.passMs d).store = s.store := rfl
@[simp] theorem State.passMs_out (d : Nat) (s : State) : (s.passMs d).out = s.out := rfl
@[simp] theorem State.passMs_pending (d : Nat) (s : State) : (s.passMs d).pending = s.pending := rfl

/-! `State.passSecond` (R6, R85, R108) writes `move`, `duty`, `dryer` alone. -/

@[simp] theorem State.passSecond_power (s : State) : s.passSecond.power = s.power := rfl
@[simp] theorem State.passSecond_time (s : State) : s.passSecond.time = s.time := rfl
@[simp] theorem State.passSecond_survey (s : State) : s.passSecond.survey = s.survey := rfl
@[simp] theorem State.passSecond_link (s : State) : s.passSecond.link = s.link := rfl
@[simp] theorem State.passSecond_flow (s : State) : s.passSecond.flow = s.flow := rfl
@[simp] theorem State.passSecond_prot (s : State) : s.passSecond.prot = s.prot := rfl
@[simp] theorem State.passSecond_nom (s : State) : s.passSecond.nom = s.nom := rfl
@[simp] theorem State.passSecond_book (s : State) : s.passSecond.book = s.book := rfl
@[simp] theorem State.passSecond_ports (s : State) : s.passSecond.ports = s.ports := rfl
@[simp] theorem State.passSecond_params (s : State) : s.passSecond.params = s.params := rfl
@[simp] theorem State.passSecond_metro (s : State) : s.passSecond.metro = s.metro := rfl
@[simp] theorem State.passSecond_store (s : State) : s.passSecond.store = s.store := rfl
@[simp] theorem State.passSecond_out (s : State) : s.passSecond.out = s.out := rfl
@[simp] theorem State.passSecond_pending (s : State) : s.passSecond.pending = s.pending := rfl

/-! `State.checkImages` (R208) writes `params`, `metro`, `store` alone. -/

@[simp] theorem State.checkImages_power (s : State) : s.checkImages.power = s.power := rfl
@[simp] theorem State.checkImages_time (s : State) : s.checkImages.time = s.time := rfl
@[simp] theorem State.checkImages_survey (s : State) : s.checkImages.survey = s.survey := rfl
@[simp] theorem State.checkImages_link (s : State) : s.checkImages.link = s.link := rfl
@[simp] theorem State.checkImages_flow (s : State) : s.checkImages.flow = s.flow := rfl
@[simp] theorem State.checkImages_move (s : State) : s.checkImages.move = s.move := rfl
@[simp] theorem State.checkImages_duty (s : State) : s.checkImages.duty = s.duty := rfl
@[simp] theorem State.checkImages_dryer (s : State) : s.checkImages.dryer = s.dryer := rfl
@[simp] theorem State.checkImages_prot (s : State) : s.checkImages.prot = s.prot := rfl
@[simp] theorem State.checkImages_nom (s : State) : s.checkImages.nom = s.nom := rfl
@[simp] theorem State.checkImages_book (s : State) : s.checkImages.book = s.book := rfl
@[simp] theorem State.checkImages_ports (s : State) : s.checkImages.ports = s.ports := rfl
@[simp] theorem State.checkImages_out (s : State) : s.checkImages.out = s.out := rfl
@[simp] theorem State.checkImages_pending (s : State) : s.checkImages.pending = s.pending := rfl

/-! `State.writeMetrology` (R46, R204) writes `metro`, `flow`, `store`, `ports` alone. -/

@[simp] theorem State.writeMetrology_power (p : MetParam) (q : MetParams) (s : State) : (s.writeMetrology p q).power = s.power := rfl
@[simp] theorem State.writeMetrology_time (p : MetParam) (q : MetParams) (s : State) : (s.writeMetrology p q).time = s.time := rfl
@[simp] theorem State.writeMetrology_survey (p : MetParam) (q : MetParams) (s : State) : (s.writeMetrology p q).survey = s.survey := rfl
@[simp] theorem State.writeMetrology_link (p : MetParam) (q : MetParams) (s : State) : (s.writeMetrology p q).link = s.link := rfl
@[simp] theorem State.writeMetrology_move (p : MetParam) (q : MetParams) (s : State) : (s.writeMetrology p q).move = s.move := rfl
@[simp] theorem State.writeMetrology_duty (p : MetParam) (q : MetParams) (s : State) : (s.writeMetrology p q).duty = s.duty := rfl
@[simp] theorem State.writeMetrology_dryer (p : MetParam) (q : MetParams) (s : State) : (s.writeMetrology p q).dryer = s.dryer := rfl
@[simp] theorem State.writeMetrology_prot (p : MetParam) (q : MetParams) (s : State) : (s.writeMetrology p q).prot = s.prot := rfl
@[simp] theorem State.writeMetrology_nom (p : MetParam) (q : MetParams) (s : State) : (s.writeMetrology p q).nom = s.nom := rfl
@[simp] theorem State.writeMetrology_book (p : MetParam) (q : MetParams) (s : State) : (s.writeMetrology p q).book = s.book := rfl
@[simp] theorem State.writeMetrology_params (p : MetParam) (q : MetParams) (s : State) : (s.writeMetrology p q).params = s.params := rfl
@[simp] theorem State.writeMetrology_out (p : MetParam) (q : MetParams) (s : State) : (s.writeMetrology p q).out = s.out := rfl
@[simp] theorem State.writeMetrology_pending (p : MetParam) (q : MetParams) (s : State) : (s.writeMetrology p q).pending = s.pending := rfl

/-! `State.addOutstanding` (R28) writes `survey` alone. -/

@[simp] theorem State.addOutstanding_power (s : State) : s.addOutstanding.power = s.power := rfl
@[simp] theorem State.addOutstanding_time (s : State) : s.addOutstanding.time = s.time := rfl
@[simp] theorem State.addOutstanding_link (s : State) : s.addOutstanding.link = s.link := rfl
@[simp] theorem State.addOutstanding_flow (s : State) : s.addOutstanding.flow = s.flow := rfl
@[simp] theorem State.addOutstanding_move (s : State) : s.addOutstanding.move = s.move := rfl
@[simp] theorem State.addOutstanding_duty (s : State) : s.addOutstanding.duty = s.duty := rfl
@[simp] theorem State.addOutstanding_dryer (s : State) : s.addOutstanding.dryer = s.dryer := rfl
@[simp] theorem State.addOutstanding_prot (s : State) : s.addOutstanding.prot = s.prot := rfl
@[simp] theorem State.addOutstanding_nom (s : State) : s.addOutstanding.nom = s.nom := rfl
@[simp] theorem State.addOutstanding_book (s : State) : s.addOutstanding.book = s.book := rfl
@[simp] theorem State.addOutstanding_ports (s : State) : s.addOutstanding.ports = s.ports := rfl
@[simp] theorem State.addOutstanding_params (s : State) : s.addOutstanding.params = s.params := rfl
@[simp] theorem State.addOutstanding_metro (s : State) : s.addOutstanding.metro = s.metro := rfl
@[simp] theorem State.addOutstanding_store (s : State) : s.addOutstanding.store = s.store := rfl
@[simp] theorem State.addOutstanding_out (s : State) : s.addOutstanding.out = s.out := rfl
@[simp] theorem State.addOutstanding_pending (s : State) : s.addOutstanding.pending = s.pending := rfl

/-! What is written. -/

@[simp] theorem State.driveOutputs_out (s : State) : s.driveOutputs.out = s.outputs := rfl
@[simp] theorem State.storeOp_params (p : OpParams) (s : State) : (s.storeOp p).params = p := rfl
@[simp] theorem State.storeOp_store (p : OpParams) (s : State) :
    (s.storeOp p).store = { s.store with opImage := some (opImage p), opValid := true } := rfl
@[simp] theorem State.setPoint_survey (p : Fin 48) (v : PointState) (s : State) :
    (s.setPoint p v).survey = { s.survey with points := s.survey.points.set p v } := rfl
@[simp] theorem State.evalInhibit_duty (s : State) :
    s.evalInhibit.duty = s.duty.evalInhibit s.time.clock s.params.duty.startLimit := rfl
@[simp] theorem State.react_duty (s : State) : s.react.duty = s.duty.react s.dutyEnv := rfl
@[simp] theorem State.confirm_nom (sel : Nat → Bool) (n : Nominations) (s : State) :
    (s.confirm sel n).nom = n.recompute s.nomEnv sel := rfl
@[simp] theorem State.openInterval_time (short : Bool) (s : State) :
    (s.openInterval short).time =
      { s.time with openStart := s.time.clock, openTicks := 0, openShort := short } := rfl
@[simp] theorem State.endHourEvent_time (s : State) : s.endHourEvent.time = { s.time with hourRaised := false } := rfl
@[simp] theorem State.endHourEvent_nom (s : State) : s.endHourEvent.nom = s.nom := rfl
@[simp] theorem State.endHourEvent_move (s : State) : s.endHourEvent.move = s.move := rfl
@[simp] theorem State.endHourEvent_params (s : State) : s.endHourEvent.params = s.params := rfl
@[simp] theorem TimeBase.second_openTicks (t : TimeBase) : t.second.openTicks = t.openTicks + 1 := by
  unfold TimeBase.second TimeBase.tick; dsimp only; split <;> rfl
@[simp] theorem State.reportPass_survey (s : State) : s.reportPass.survey = s.survey.report := rfl
@[simp] theorem State.bookTakes_book (r : IntervalRecord) (s : State) :
    (s.bookTakes r).book = (s.book.take (s.ratesFor r) r).1 := rfl
@[simp] theorem State.done_eq (s : State) : s.done = .next s.driveOutputs := rfl

/-- Driving the outputs twice is driving them once. -/
@[simp] theorem State.driveOutputs_idem (s : State) : s.driveOutputs.driveOutputs = s.driveOutputs := rfl

/-- The outputs do not read the waiting commands. -/
theorem State.outputs_pending (l : List Instr) (s : State) : ({ s with pending := l } : State).outputs = s.outputs := rfl

/-! Ports. -/

@[simp] theorem Ports.get_set (q : PortState) (p : Port) (x : Ports) : (x.set q p).get p = q := by cases p <;> rfl

theorem Ports.get_set_of_ne (q : PortState) {p p' : Port} (x : Ports) (h : p' ≠ p) : (x.set q p).get p' = x.get p' := by
  cases p <;> cases p' <;> first | rfl | exact absurd rfl h

@[simp] theorem Ports.set_opsRemote (q : PortState) (p : Port) (x : Ports) : (x.set q p).opsRemote = x.opsRemote := by
  cases p <;> rfl

@[simp] theorem Ports.set_metRemote (q : PortState) (p : Port) (x : Ports) : (x.set q p).metRemote = x.metRemote := by
  cases p <;> rfl

@[simp] theorem State.onPort_get (p : Port) (f : PortState → PortState) (s : State) :
    (s.onPort p f).ports.get p = f (s.ports.get p) := by simp [State.onPort]

end Sys2Proof.Machine
end

