-- ==== Sys2Proof/Laws/Frame.lean ====
section
/-! SUPPORT. What the shared operations leave alone: `State.propagate` gives `State.rederived`, and every change of the site
mode, of a train, of a record or of a channel gives `State.settled`; both are closed under composition. A proof about a
command that runs through them cites these and never unfolds them. -/

namespace Sys2Proof.Machine

/-! ### Ports: causes raised and nothing else -/

theorem raisedOver_refl (p : PortState) : p.raisedOver p := ⟨rfl, BitVec.and_self⟩

theorem raisedOver_trans {p q r : PortState} (h : p.raisedOver q) (g : q.raisedOver r) : p.raisedOver r := by
  obtain ⟨h1, h2⟩ := h
  obtain ⟨g1, g2⟩ := g
  refine ⟨by rw [g1, h1], ?_⟩
  rw [← h2, BitVec.and_assoc, g2]

theorem raisedOver_raise (c : Cause) (p : PortState) : p.raisedOver (p.raise c) := by
  refine ⟨rfl, ?_⟩
  show p.causes &&& (p.causes ||| _) = p.causes
  ext i
  simp
  intro h; exact Or.inl h

theorem after_refl (p : Ports) : p.after none p := by
  refine ⟨fun x _ => ?_, rfl, rfl⟩
  simp [raisedOver_refl]

theorem after_trans {p q r : Ports} (h : p.after none q) (g : q.after none r) : p.after none r := by
  refine ⟨fun x hx => ?_, g.2.1.trans h.2.1, g.2.2.trans h.2.2⟩
  have h' := h.1 x hx
  have g' := g.1 x hx
  simp only [reduceCtorEq, if_false] at h' g' ⊢
  exact raisedOver_trans h' g'

/-- The ports with causes raised at each where a condition holds. -/
theorem after_of_get {p q : Ports} (h : ∀ x, (p.get x).raisedOver (q.get x)) (ho : q.opsRemote = p.opsRemote)
    (hm : q.metRemote = p.metRemote) : p.after none q := by
  refine ⟨fun x _ => ?_, ho, hm⟩
  simpa using h x

theorem after_raiseOps (c : Cause) (b : Bool) (p : Ports) : p.after none (p.raiseOps c b) := by
  refine after_of_get (fun x => ?_) rfl rfl
  cases x <;> cases b <;> first | exact raisedOver_refl _ | exact raisedOver_raise c _

theorem after_raiseCom (c : Cause) (b : Bool) (p : Ports) : p.after none (p.raiseCom c b) := by
  refine after_of_get (fun x => ?_) rfl rfl
  cases x <;> cases b <;> first | exact raisedOver_refl _ | exact raisedOver_raise c _

theorem after_raiseMet (c : Cause) (b : Bool) (p : Ports) : p.after none (p.raiseMet c b) := by
  refine after_of_get (fun x => ?_) rfl rfl
  cases x <;> cases b <;> first | exact raisedOver_refl _ | exact raisedOver_raise c _

/-! ### Composition -/

theorem sameElsewhere_refl (s : State) : s.sameElsewhere none s :=
  ⟨rfl, rfl, rfl, rfl, rfl, rfl, rfl, rfl, rfl, rfl, after_refl _⟩

theorem sameElsewhere_trans {s t u : State} (h : s.sameElsewhere none t) (g : t.sameElsewhere none u) :
    s.sameElsewhere none u := by
  obtain ⟨h1, h2, h3, h4, h5, h6, h7, h8, h9, h10, hp⟩ := h
  obtain ⟨g1, g2, g3, g4, g5, g6, g7, g8, g9, g10, gp⟩ := g
  exact ⟨g1.trans h1, g2.trans h2, g3.trans h3, g4.trans h4, g5.trans h5, g6.trans h6, g7.trans h7, g8.trans h8,
    g9.trans h9, g10.trans h10, after_trans hp gp⟩

theorem sameMeters_refl (s : State) : s.sameMeters s :=
  ⟨fun _ => ⟨rfl, rfl, rfl⟩, fun _ => ⟨rfl, rfl⟩, fun _ _ => rfl, rfl, rfl, rfl, rfl, rfl, rfl, rfl, rfl⟩

theorem sameMeters_trans {s t u : State} (h : s.sameMeters t) (g : t.sameMeters u) : s.sameMeters u := by
  obtain ⟨h1, h2, h3, h4, h5, h6, h7, h8, h9, h10, h11⟩ := h
  obtain ⟨g1, g2, g3, g4, g5, g6, g7, g8, g9, g10, g11⟩ := g
  exact ⟨fun i => ⟨(g1 i).1.trans (h1 i).1, (g1 i).2.1.trans (h1 i).2.1, (g1 i).2.2.trans (h1 i).2.2⟩,
    fun i => ⟨(g2 i).1.trans (h2 i).1, (g2 i).2.trans (h2 i).2⟩, fun k i => (g3 k i).trans (h3 k i), g4.trans h4,
    g5.trans h5, g6.trans h6, g7.trans h7, g8.trans h8, g9.trans h9, g10.trans h10, g11.trans h11⟩

/-- A cause raised at a port is still raised after what has gone by without clearing any. -/
theorem after_keeps {p q : Ports} (h : p.after none q) (x : Port) (b : Nat) (hb : (p.get x).causes.getLsbD b = true) :
    (q.get x).causes.getLsbD b = true := by
  have hx := h.1 x (by cases x <;> simp)
  simp only [reduceCtorEq, if_false] at hx
  have := hx.2
  rw [← this, BitVec.getLsbD_and, Bool.and_eq_true] at hb
  exact hb.2

/-- A change that leaves the nomination entries alone has no rate to compare. -/
theorem curtailmentRaised_same {s t : State} (h : t.nom.entries = s.nom.entries) : s.curtailmentRaised t := by
  rintro ⟨⟨x, y⟩, hp, -, hne⟩
  rw [h, List.mem_iff_getElem?] at hp
  obtain ⟨i, hi⟩ := hp
  rw [List.getElem?_zip_eq_some] at hi
  rw [hi.1] at hi
  cases hi.2
  exact absurd rfl hne

theorem curtailmentRaised_trans {s t u : State} (hm : s.sameMeters t) (gm : t.sameMeters u) (gp : t.ports.after none u.ports)
    (h : s.curtailmentRaised t) (g : t.curtailmentRaised u) : s.curtailmentRaised u := by
  rintro ⟨⟨x, z⟩, hp, hz, hne⟩
  obtain ⟨-, -, -, -, -, -, -, -, he, -, -⟩ := hm
  obtain ⟨-, -, -, -, -, -, -, -, ge, -, -⟩ := gm
  rw [List.mem_iff_getElem?] at hp
  obtain ⟨i, hi⟩ := hp
  rw [List.getElem?_zip_eq_some] at hi
  have ei := congrArg (·[i]?) he
  have fi := congrArg (·[i]?) ge
  simp only [List.getElem?_map, hi.1, hi.2, Option.map_some] at ei fi
  obtain ⟨y, hy, hy'⟩ := Option.map_eq_some_iff.1 ei
  rw [hy] at fi
  simp only [Option.map_some, Option.some.injEq, Prod.mk.injEq] at fi hy'
  by_cases hxy : x.confirmed = y.confirmed
  · exact g ⟨(y, z), List.mem_iff_getElem?.2 ⟨i, List.getElem?_zip_eq_some.2 ⟨hy, hi.2⟩⟩, hz, by rw [← hxy]; exact hne⟩
  · have r := h ⟨(x, y), List.mem_iff_getElem?.2 ⟨i, List.getElem?_zip_eq_some.2 ⟨hi.1, hy⟩⟩, by
      show y.state ≠ _; rw [← fi.2.2.2]; exact hz, hxy⟩
    exact ⟨after_keeps gp .com 5 r.1, after_keeps gp .ops 5 r.2⟩

theorem settled_refl (s : State) : s.settled none s :=
  ⟨sameElsewhere_refl s, sameMeters_refl s, curtailmentRaised_same rfl⟩

theorem settled_trans {s t u : State} (h : s.settled none t) (g : t.settled none u) : s.settled none u :=
  ⟨sameElsewhere_trans h.1 g.1, sameMeters_trans h.2.1 g.2.1,
    curtailmentRaised_trans h.2.1 g.2.1 g.1.2.2.2.2.2.2.2.2.2.2 h.2.2 g.2.2⟩

theorem rederived_refl (s : State) : s.rederived none s := ⟨settled_refl s, rfl, rfl, rfl, rfl, rfl⟩

theorem rederived_trans {s t u : State} (h : s.rederived none t) (g : t.rederived none u) : s.rederived none u := by
  obtain ⟨h1, h2, h3, h4, h5, h6⟩ := h
  obtain ⟨g1, g2, g3, g4, g5, g6⟩ := g
  exact ⟨settled_trans h1 g1, g2.trans h2, g3.trans h3, g4.trans h4, g5.trans h5, g6.trans h6⟩

/-! ### Units -/

/-- Run seconds and feedback levels are as they were. -/
def Duty.sameCounts (d n : Duty) : Prop :=
  ∀ i : Fin 4, n.units[i].runSeconds = d.units[i].runSeconds ∧ n.units[i].feedback = d.units[i].feedback

theorem sameCounts_refl (d : Duty) : d.sameCounts d := fun _ => ⟨rfl, rfl⟩

theorem sameCounts_trans {a b c : Duty} (h : a.sameCounts b) (g : b.sameCounts c) : a.sameCounts c :=
  fun i => ⟨(g i).1.trans (h i).1, (g i).2.trans (h i).2⟩

/-- One unit replaced by one of the same run seconds and feedback. -/
theorem sameCounts_set (d : Duty) (i : Fin 4) (u : CompUnit) (hr : u.runSeconds = d.units[i].runSeconds)
    (hf : u.feedback = d.units[i].feedback) : d.sameCounts (d.setUnit i u) := by
  intro j
  by_cases h : i = j
  · subst h; simp [Duty.setUnit, hr, hf]
  · have h' : i.val ≠ j.val := fun e => h (Fin.ext e)
    simp [Duty.setUnit, Vector.getElem_set_ne _ _ h']

theorem sameCounts_handTo (e : DutyEnv) (i : Fin 4) (d : Duty) : d.sameCounts (d.handTo e i) :=
  sameCounts_set d i _ rfl rfl

theorem sameCounts_handSlots (e : DutyEnv) (n : Nat) (d : Duty) : d.sameCounts (Duty.handSlots e n d) := by
  induction n generalizing d with
  | zero => exact sameCounts_refl d
  | succ n ih =>
    simp only [Duty.handSlots]
    split
    · exact sameCounts_refl d
    · split
      · exact sameCounts_refl d
      · exact sameCounts_trans (sameCounts_handTo e _ d) (ih _)

theorem sameCounts_enqueue (e : DutyEnv) (n : Nat) (d : Duty) : d.sameCounts (Duty.enqueue e n d) := by
  induction n generalizing d with
  | zero => exact sameCounts_refl d
  | succ n ih =>
    simp only [Duty.enqueue]
    split
    · exact sameCounts_refl d
    · refine sameCounts_trans ?_ (ih _)
      intro j
      exact sameCounts_handSlots e 4 { d with queue := _ } j

theorem sameCounts_removeSurplus (n : Nat) (d : Duty) : d.sameCounts (Duty.removeSurplus n d) := by
  induction n generalizing d with
  | zero => exact sameCounts_refl d
  | succ n ih =>
    simp only [Duty.removeSurplus]
    split
    · exact sameCounts_refl d
    · exact ih { d with queue := _ }

/-- The reaction of the duty controller moves no run seconds and no feedback (R97 to R100). -/
theorem sameCounts_react (e : DutyEnv) (d : Duty) : d.sameCounts (d.react e) := by
  have h : ∀ x : Duty, x.sameCounts (x.checkStopDelay e) := by
    intro x; unfold Duty.checkStopDelay; split <;> exact sameCounts_refl x
  refine sameCounts_trans ?_ (h _)
  refine sameCounts_trans ?_ (sameCounts_handSlots e 4 _)
  refine sameCounts_trans ?_ (sameCounts_removeSurplus _ _)
  intro j
  exact sameCounts_enqueue e _ { d with demand := _ } j

/-- Units replaced one for one by units of the same run seconds and feedback. -/
theorem sameCounts_map (d : Duty) (f : Fin 4 → CompUnit → CompUnit)
    (h : ∀ i u, (f i u).runSeconds = u.runSeconds ∧ (f i u).feedback = u.feedback) (n : Duty)
    (hn : n.units = Vector.ofFn fun i => f i d.units[i]) : d.sameCounts n := by
  intro i
  simp [hn, h]

theorem stop_counts (t : Nat) (u : CompUnit) :
    (u.stop t).runSeconds = u.runSeconds ∧ (u.stop t).feedback = u.feedback := by
  unfold CompUnit.stop; split <;> exact ⟨rfl, rfl⟩

theorem trip_counts (u : CompUnit) : u.trip.runSeconds = u.runSeconds ∧ u.trip.feedback = u.feedback := by
  unfold CompUnit.trip; split <;> exact ⟨rfl, rfl⟩

theorem release_counts (u : CompUnit) :
    u.release.runSeconds = u.runSeconds ∧ u.release.feedback = u.feedback := by
  unfold CompUnit.release; split <;> exact ⟨rfl, rfl⟩

theorem sameCounts_stopAll (t : Nat) (d : Duty) : d.sameCounts (d.stopAll t) :=
  sameCounts_map d (fun _ u => u.stop t) (fun _ u => stop_counts t u) _ rfl

theorem sameCounts_tripAll (d : Duty) : d.sameCounts d.tripAll :=
  sameCounts_map d (fun _ u => u.trip) (fun _ u => trip_counts u) _ rfl

theorem sameCounts_tripUnit (i : Fin 4) (d : Duty) : d.sameCounts (d.tripUnit i) :=
  sameCounts_set d i _ (trip_counts _).1 (trip_counts _).2

theorem sameCounts_evalInhibit (c l : Nat) (d : Duty) : d.sameCounts (d.evalInhibit c l) :=
  sameCounts_map d (fun _ u => { u with inhibited := u.inhibition c l }) (fun _ _ => ⟨rfl, rfl⟩) _ rfl

/-! ### Confirmations -/

/-- What a recomputation of the confirmations leaves alone (R154). -/
theorem recompute_frame (n : Nominations) (e : NomEnv) (sel : Nat → Bool) :
    let m := n.recompute e sel
    m.entries.map (fun x => (x.slot, x.hour, x.requested, x.state)) =
      n.entries.map (fun x => (x.slot, x.hour, x.requested, x.state)) ∧
    m.summaries.map (·.hour) = n.summaries.map (·.hour) ∧
    m.firm = n.firm ∧ m.current = n.current ∧ m.previous = n.previous ∧ m.counter = n.counter ∧
    m.injPot = n.injPot ∧ m.wdrPot = n.wdrPot ∧ m.injEff = n.injEff ∧ m.wdrEff = n.wdrEff := by
  refine ⟨?_, ?_, rfl, rfl, rfl, rfl, rfl, rfl, rfl, rfl⟩
  · simp only [Nominations.recompute, List.map_map]
    refine List.map_congr_left fun x _ => ?_
    simp only [Function.comp_apply]
    by_cases h : (sel x.hour && !n.outside e x.hour) = true <;> simp only [h, if_true, if_false, Bool.false_eq_true]
  · simp only [Nominations.recompute, List.map_map]
    refine List.map_congr_left fun x _ => ?_
    simp only [Function.comp_apply]
    by_cases h : (sel x.hour && !n.outside e x.hour) = true
    · simp only [h, if_true, Nominations.summaryOf]
      split
      · rfl
      · split <;> (unfold summarize; simp only; split <;> rfl)
    · simp only [h, if_false, Bool.false_eq_true]

/-- A recomputation raises CURTAILMENT where it changes the confirmed rate of an entry that is not REQUESTED (R156). -/
theorem confirm_curtailmentRaised (sel : Nat → Bool) (n : Nominations) (s : State) (hn : n.entries = s.nom.entries) :
    s.curtailmentRaised (s.confirm sel n) := by
  rintro ⟨⟨x, y⟩, hp, hy, hne⟩
  have hf := (recompute_frame n s.nomEnv sel).1
  rw [hn] at hf
  have hp' := hp
  rw [List.mem_iff_getElem?] at hp'
  obtain ⟨i, hi⟩ := hp'
  rw [List.getElem?_zip_eq_some] at hi
  have fi := congrArg (·[i]?) hf
  have hi2 : (n.recompute s.nomEnv sel).entries[i]? = some y := hi.2
  simp only [List.getElem?_map, hi.1, hi2, Option.map_some, Option.some.injEq, Prod.mk.injEq] at fi
  have seen : curtailmentSeen s.nom.entries (n.recompute s.nomEnv sel).entries = true := by
    refine List.any_eq_true.2 ⟨y, List.mem_of_getElem? hi2, ?_⟩
    simp only [Bool.and_eq_true, bne_iff_ne, List.any_eq_true, beq_iff_eq]
    exact ⟨hy, x, List.mem_of_getElem? hi.1, ⟨fi.1.symm, fi.2.1.symm⟩, hne⟩
  simp [State.confirm, seen, Ports.raiseCom, Ports.raiseOps, PortState.raise, Cause.mask, Cause.bit]

/-- A recomputation on a table that has the entries, hours and previous-hour copy of the present one. -/
theorem confirm_rederived (sel : Nat → Bool) (n : Nominations) (s : State)
    (hn : n = { s.nom with injPot := n.injPot, wdrPot := n.wdrPot, injEff := n.injEff, wdrEff := n.wdrEff }) :
    s.rederived none (s.confirm sel n) := by
  obtain ⟨h1, h2, h3, h4, h5, h6, -⟩ := recompute_frame n s.nomEnv sel
  have e1 : n.entries = s.nom.entries := by rw [hn]
  have e2 : n.summaries = s.nom.summaries := by rw [hn]
  have e3 : n.firm = s.nom.firm := by rw [hn]
  have e4 : n.current = s.nom.current := by rw [hn]
  have e5 : n.previous = s.nom.previous := by rw [hn]
  have e6 : n.counter = s.nom.counter := by rw [hn]
  refine ⟨⟨⟨rfl, rfl, rfl, rfl, rfl, rfl, rfl, rfl, rfl, rfl, ?_⟩, ?_, confirm_curtailmentRaised sel n s e1⟩,
    rfl, rfl, rfl, rfl, rfl⟩
  · exact after_trans (after_raiseCom .curtailment _ s.ports) (after_raiseOps .curtailment _ _)
  · refine ⟨fun _ => ⟨rfl, rfl, rfl⟩, fun _ => ⟨rfl, rfl⟩, fun _ _ => rfl, rfl, ?_, ?_, ?_, ?_, ?_, ?_, rfl⟩
    · exact h4.trans e4
    · exact h3.trans e3
    · exact h5.trans e5
    · exact h6.trans e6
    · exact h1.trans (by rw [e1])
    · exact h2.trans (by rw [e2])

/-! ### Propagation -/

theorem deriveMovement_rederived (s : State) : s.rederived none s.deriveMovement := by
  refine ⟨⟨⟨rfl, rfl, rfl, rfl, rfl, rfl, rfl, rfl, rfl, rfl, after_refl _⟩, ?_, curtailmentRaised_same rfl⟩,
    rfl, rfl, rfl, rfl, rfl⟩
  refine ⟨fun i => ?_, fun _ => ⟨rfl, rfl⟩, fun _ _ => rfl, rfl, rfl, rfl, rfl, rfl, rfl, rfl, rfl⟩
  simp [State.deriveMovement]

/-- A change of the duty controller alone that moves no counts. -/
theorem duty_rederived (d : Duty) (s : State) (h : s.duty.sameCounts d) : s.rederived none { s with duty := d } :=
  ⟨⟨⟨rfl, rfl, rfl, rfl, rfl, rfl, rfl, rfl, rfl, rfl, after_refl _⟩,
    ⟨fun _ => ⟨rfl, rfl, rfl⟩, h, fun _ _ => rfl, rfl, rfl, rfl, rfl, rfl, rfl, rfl, rfl⟩, curtailmentRaised_same rfl⟩,
    rfl, rfl, rfl, rfl, rfl⟩

theorem evalInhibit_rederived (s : State) : s.rederived none s.evalInhibit :=
  duty_rederived _ s (sameCounts_evalInhibit _ _ _)

theorem react_rederived (s : State) : s.rederived none s.react := duty_rederived _ s (sameCounts_react _ _)

theorem capacity_rederived (force : Bool) (s : State) : s.rederived none (s.capacity force) := by
  unfold State.capacity
  simp only
  split
  · exact confirm_rederived _ _ s rfl
  · exact rederived_refl s

/-- All that a change carried through caverns, units, capacity and demand can do (R14, R19, R94, R98 to R100, R141,
R154). -/
theorem propagate_rederived (force : Bool) (s : State) : s.rederived none (s.propagate force) :=
  rederived_trans (rederived_trans (rederived_trans (deriveMovement_rederived s) (evalInhibit_rederived _))
    (capacity_rederived force _)) (react_rederived _)

/-! ### Trains -/

/-- The loadings of both towers are as they were. -/
def Train.sameLoading (t n : Train) : Prop := ∀ i : Fin 2, n.towers[i].loading = t.towers[i].loading

theorem sameLoading_refl (t : Train) : t.sameLoading t := fun _ => rfl

theorem sameLoading_trans {a b c : Train} (h : a.sameLoading b) (g : b.sameLoading c) : a.sameLoading c :=
  fun i => (g i).trans (h i)

theorem sameLoading_set (t : Train) (i : Fin 2) (w : Tower) (h : w.loading = t.towers[i].loading) :
    t.sameLoading (t.setTower i w) := by
  intro j
  by_cases e : i = j
  · subst e; simp [Train.setTower, h]
  · have e' : i.val ≠ j.val := fun x => e (Fin.ext x)
    simp [Train.setTower, Vector.getElem_set_ne _ _ e']

theorem sameLoading_startHeating (e : TrainEnv) (t : Train) : t.sameLoading (t.startHeating e) := by
  unfold Train.startHeating
  split
  · exact sameLoading_refl t
  · split
    · exact sameLoading_refl t
    · exact sameLoading_set t _ _ rfl

theorem sameLoading_switch (e : TrainEnv) (i : Fin 2) (t : Train) : t.sameLoading (t.switch e i) := by
  unfold Train.switch
  refine sameLoading_trans ?_ (sameLoading_startHeating e _)
  have h : ∀ x : Train, t.sameLoading x → t.sameLoading { x with dewHigh := false } := fun _ h => h
  apply h
  refine sameLoading_trans (sameLoading_set t (partner i) _ ?_) (sameLoading_set _ i _ ?_) <;> rfl

theorem sameLoading_evalSwitch (e : TrainEnv) (t : Train) : t.sameLoading (t.evalSwitch e) := by
  unfold Train.evalSwitch
  split
  · split
    · exact sameLoading_refl t
    · split
      · split
        · exact sameLoading_switch e _ t
        · exact sameLoading_set t _ _ rfl
      · exact sameLoading_set t _ _ rfl
  · exact sameLoading_refl t

theorem sameLoading_pendingSwitch (e : TrainEnv) (t : Train) : t.sameLoading (t.pendingSwitch e) := by
  unfold Train.pendingSwitch
  split
  · exact sameLoading_refl t
  · split
    · exact sameLoading_refl t
    · split
      · exact sameLoading_switch e _ t
      · exact sameLoading_refl t

theorem sameLoading_enterService (e : TrainEnv) (t : Train) : t.sameLoading (t.enterService e) := by
  unfold Train.enterService
  refine sameLoading_trans ?_ (sameLoading_evalSwitch e _)
  intro j
  dsimp only
  split
  · rfl
  · split
    · rfl
    · refine sameLoading_set t _ _ ?_ j
      rfl

theorem hold_loading (w : Tower) : w.hold.loading = w.loading := by unfold Tower.hold; split <;> rfl

theorem release_loading (d : DryerParams) (w : Tower) : (w.release d).loading = w.loading := by
  unfold Tower.release; split <;> rfl

/-- The derivation of a train moves no loading (R109, R110, R117, R119, R120). -/
theorem sameLoading_derive (e : TrainEnv) (t : Train) : t.sameLoading (t.derive e) := by
  unfold Train.derive
  refine sameLoading_trans ?_ (sameLoading_startHeating e _)
  have h : ∀ st : TrainState, t.sameLoading { (if !t.state.isHeld && st.isHeld then
      ({ t with towers := Vector.ofFn fun i => (t.towers[i]).hold } : Train)
      else if t.state.isHeld && !st.isHeld then { t with towers := Vector.ofFn fun i => (t.towers[i]).release e.dryer }
      else t) with state := st } := by
    intro st j
    dsimp only
    split
    · simp [hold_loading]
    · split
      · simp [release_loading]
      · rfl
  split
  · exact sameLoading_trans (h _) (sameLoading_enterService e _)
  · exact h _

theorem sameLoading_dewAction (e : TrainEnv) (q : Quality) (v : Int) (t : Train) : t.sameLoading (t.dewAction e q v) := by
  unfold Train.dewAction
  split
  · refine sameLoading_trans ?_ (sameLoading_evalSwitch e _)
    intro j
    split
    · rfl
    · split
      · rfl
      · split <;> rfl
  · exact sameLoading_refl t

/-- A change of the trains alone that moves no loading. -/
theorem trains_settled (n : Vector Train 2) (s : State) (h : ∀ k : Fin 2, (s.dryer.trains[k]).sameLoading n[k]) :
    s.settled none { s with dryer := { s.dryer with trains := n } } :=
  ⟨⟨rfl, rfl, rfl, rfl, rfl, rfl, rfl, rfl, rfl, rfl, after_refl _⟩,
    ⟨fun _ => ⟨rfl, rfl, rfl⟩, fun _ => ⟨rfl, rfl⟩, fun k i => h k i, rfl, rfl, rfl, rfl, rfl, rfl, rfl, rfl⟩,
    curtailmentRaised_same rfl⟩

theorem deriveTrains_settled (s : State) : s.settled none s.deriveTrains :=
  trains_settled _ s fun k => by simpa using sameLoading_derive _ _

/-- One train changed by an operation that moves no loading. -/
theorem onTrain_settled (t : Fin 2) (f : TrainEnv → Train → Train) (s : State)
    (h : ∀ e x, Train.sameLoading x (f e x)) : s.settled none (s.onTrain t f) := by
  refine trains_settled _ s fun k => ?_
  by_cases e : t = k
  · subst e; simpa using h _ _
  · have e' : t.val ≠ k.val := fun x => e (Fin.ext x)
    simp [Vector.getElem_set_ne _ _ e', sameLoading_refl]

theorem deriveTrain_settled (t : Fin 2) (s : State) : s.settled none (s.deriveTrain t) :=
  onTrain_settled t Train.derive s sameLoading_derive

theorem dewActions_settled (p : Fin 48) (s : State) : s.settled none (s.dewActions p) := by
  refine trains_settled _ s fun k => ?_
  simp only [Fin.getElem_fin, Vector.getElem_ofFn]
  split
  · exact sameLoading_dewAction _ _ _ _
  · exact sameLoading_refl _

/-! ### The site mode -/

/-- A change of mode, wanted mode, changeover or units alone. -/
theorem move_settled (m : Movement) (d : Duty) (s : State) (hm : ∀ i : Fin 6, m.caverns[i] = s.move.caverns[i])
    (hd : s.duty.sameCounts d) : s.settled none { s with move := m, duty := d } :=
  ⟨⟨rfl, rfl, rfl, rfl, rfl, rfl, rfl, rfl, rfl, rfl, after_refl _⟩,
    ⟨fun i => ⟨congrArg Cavern.inventory (hm i), congrArg Cavern.ring (hm i), congrArg Cavern.restricted (hm i)⟩, hd,
      fun _ _ => rfl, rfl, rfl, rfl, rfl, rfl, rfl, rfl, rfl⟩, curtailmentRaised_same rfl⟩

/-- All that setting the site mode can do: the mode and changeover are those named, and the rest is carried through
(R5, R11). -/
theorem setMode_settled (m : SiteMode) (c : Option Changeover) (s : State) :
    s.settled none (s.setMode m c) ∧ (s.setMode m c).move.mode = m ∧ (s.setMode m c).move.changeover = c ∧
      (s.setMode m c).move.wanted = s.move.wanted ∧ (s.setMode m c).prot = s.prot := by
  unfold State.setMode
  dsimp only
  by_cases h : m = s.move.mode
  · rw [if_pos h]
    exact ⟨move_settled _ s.duty s (fun _ => rfl) (sameCounts_refl _), rfl, rfl, rfl, rfl⟩
  · rw [if_neg h]
    have key : ∀ d : Duty, s.duty.sameCounts d →
        let x : State := { s with move := { s.move with mode := m, changeover := c }, duty := d }
        s.settled none (x.deriveTrains.propagate true) ∧ (x.deriveTrains.propagate true).move.mode = m ∧
          (x.deriveTrains.propagate true).move.changeover = c ∧
          (x.deriveTrains.propagate true).move.wanted = s.move.wanted ∧
          (x.deriveTrains.propagate true).prot = s.prot := by
      intro d hd x
      obtain ⟨p1, p2, -, p4, p5, p6⟩ := propagate_rederived true x.deriveTrains
      exact ⟨settled_trans (settled_trans (move_settled _ d s (fun _ => rfl) hd) (deriveTrains_settled x)) p1, p4, p6, p5,
        p2⟩
    by_cases g : m.stopsUnits = true
    · rw [if_pos g]; exact key _ (sameCounts_stopAll _ _)
    · rw [if_neg g]; exact key _ (sameCounts_refl _)

/-- The model's line-by-line rule is Table 1-1. -/
theorem applyTable_eq (t : Nat) (m : SiteMode) (c : Option Changeover) (w : Wanted) :
    applyTable t m c w = table1_1 t m c w := by
  cases m <;> cases w <;> try rfl
  all_goals
    obtain - | ⟨tg, n⟩ := c
    · rfl
    · cases tg <;> rfl

/-- All that applying a wanted mode can do (R5). -/
theorem applyWanted_settled (w : Wanted) (s : State) :
    s.settled none (s.applyWanted w) ∧ (s.applyWanted w).move.wanted = w ∧ (s.applyWanted w).prot = s.prot ∧
      ((s.applyWanted w).move.mode, (s.applyWanted w).move.changeover) =
        table1_1 s.params.tChange s.move.mode s.move.changeover w := by
  unfold State.applyWanted
  obtain ⟨h1, h2, h3, h4, h5⟩ := setMode_settled (applyTable s.params.tChange s.move.mode s.move.changeover w).1
    (applyTable s.params.tChange s.move.mode s.move.changeover w).2 { s with move := { s.move with wanted := w } }
  refine ⟨settled_trans (move_settled { s.move with wanted := w } s.duty s (fun _ => rfl) (sameCounts_refl _)) h1, h4, h5,
    ?_⟩
  rw [h2, h3, ← applyTable_eq]

theorem autoWanted_eq (s : State) : s.autoWanted = wantedBy s.time.lost s.hourDirection := by
  unfold State.autoWanted wantedBy
  cases h : s.time.lost
  · simp only [Bool.false_eq_true, if_false]
    split
    · next e => rw [e]; rfl
    · next e =>
      split
      · next g => rw [g]; rfl
      · next g => split <;> first | rfl | (next h => exact absurd h (by omega))
  · rfl

/-- An AUTO evaluation (R3): under MANUAL nothing; under AUTO the wanted mode that the published direction gives. -/
theorem autoEvaluate_manual {s : State} (h : s.params.siteControl = .manual) : s.autoEvaluate = s := by
  simp [State.autoEvaluate, h]

theorem autoEvaluate_auto {s : State} (h : s.params.siteControl = .auto) :
    s.autoEvaluate = s.applyWanted (wantedBy s.time.lost s.hourDirection) := by
  simp [State.autoEvaluate, h, autoWanted_eq]

theorem autoEvaluate_settled (s : State) : s.settled none s.autoEvaluate ∧ s.autoEvaluate.prot = s.prot := by
  cases h : s.params.siteControl
  · rw [autoEvaluate_auto h]; exact ⟨(applyWanted_settled _ s).1, (applyWanted_settled _ s).2.2.1⟩
  · rw [autoEvaluate_manual h]; exact ⟨settled_refl s, rfl⟩

/-! ### Trips -/

/-- A change of the matrix that keeps the pins, with causes raised at the ports. -/
theorem prot_settled (p : Protection) (q : Ports) (s : State) (hp : p.pins = s.prot.pins) (hq : s.ports.after none q) :
    s.settled none { s with prot := p, ports := q } :=
  ⟨⟨rfl, rfl, rfl, rfl, rfl, rfl, rfl, rfl, rfl, rfl, hq⟩,
    ⟨fun _ => ⟨rfl, rfl, rfl⟩, fun _ => ⟨rfl, rfl⟩, fun _ _ => rfl, rfl, rfl, rfl, rfl, rfl, rfl, rfl, hp⟩,
    curtailmentRaised_same rfl⟩

theorem duty_settled (d : Duty) (s : State) (h : s.duty.sameCounts d) : s.settled none { s with duty := d } :=
  (duty_rederived d s h).1

theorem setRecord_pins (p : Protection) (r : RecordId) (v : TripRecord) : (p.setRecord r v).pins = p.pins := rfl

/-- All that a latch of a record does at its equipment (R136): no record and no wanted mode changes, and the site mode
changes for the site record alone. -/
theorem latchEffects_settled (r : RecordId) (s : State) :
    s.settled none (s.latchEffects r) ∧ (s.latchEffects r).prot = s.prot ∧
      (s.latchEffects r).move.wanted = s.move.wanted ∧
      (r = .site → (s.latchEffects r).move.mode = .shutdown ∧ (s.latchEffects r).move.changeover = none) ∧
      (r ≠ .site → (s.latchEffects r).move.mode = s.move.mode ∧
        (s.latchEffects r).move.changeover = s.move.changeover) := by
  cases r with
  | site =>
    obtain ⟨h1, h2, h3, h4, h5⟩ := setMode_settled .shutdown none { s with duty := s.duty.tripAll }
    obtain ⟨p1, p2, -, p4, p5, p6⟩ := propagate_rederived false
      (({ s with duty := s.duty.tripAll } : State).setMode .shutdown none).deriveTrains
    exact ⟨settled_trans (settled_trans (settled_trans (duty_settled _ s (sameCounts_tripAll _)) h1)
      (deriveTrains_settled _)) p1, p2.trans h5, p5.trans h4, fun _ => ⟨p4.trans h2, p6.trans h3⟩,
      fun h => absurd rfl h⟩
  | unit u =>
    obtain ⟨p1, p2, -, p4, p5, p6⟩ := propagate_rederived false { s with duty := s.duty.tripUnit u }
    exact ⟨settled_trans (duty_settled _ s (sameCounts_tripUnit u _)) p1, p2, p5, fun h => (by cases h),
      fun _ => ⟨p4, p6⟩⟩
  | cavern c =>
    obtain ⟨p1, p2, -, p4, p5, p6⟩ := propagate_rederived false s
    exact ⟨p1, p2, p5, fun h => (by cases h), fun _ => ⟨p4, p6⟩⟩
  | train t =>
    obtain ⟨p1, p2, -, p4, p5, p6⟩ := propagate_rederived false (s.deriveTrain t)
    exact ⟨settled_trans (deriveTrain_settled t s) p1, p2, p5, fun h => (by cases h), fun _ => ⟨p4, p6⟩⟩

/-- A cause reaching a record that it is already a member of does nothing (R130). -/
theorem reach_member {r : RecordId} {c : TripCause} {s : State} (hl : (s.prot.record r).latched = true)
    (hc : (s.prot.record r).hasCause c = true) : s.reach r c = s := by
  simp [State.reach, hl, hc]

/-- A cause joining a latched record (R130). -/
theorem reach_joins {r : RecordId} {c : TripCause} {s : State} (hl : (s.prot.record r).latched = true)
    (hc : (s.prot.record r).hasCause c = false) :
    s.reach r c = { s with prot := s.prot.setRecord r ((s.prot.record r).reach c s.time.clock s.time.lost)
                           ports := s.ports.raiseOps .trip true } := by
  simp [State.reach, hl, hc]

/-- A cause latching a record (R130, R136). -/
theorem reach_latches {r : RecordId} {c : TripCause} {s : State} (hl : (s.prot.record r).latched = false) :
    s.reach r c = ({ s with prot := s.prot.setRecord r ((s.prot.record r).reach c s.time.clock s.time.lost)
                            ports := s.ports.raiseOps .trip true } : State).latchEffects r := by
  simp [State.reach, hl]

/-- All that a cause reaching a record can do (R130, R136). -/
theorem reach_settled (r : RecordId) (c : TripCause) (s : State) :
    s.settled none (s.reach r c) ∧ (s.reach r c).move.wanted = s.move.wanted ∧
      (r ≠ .site → (s.reach r c).move.mode = s.move.mode ∧ (s.reach r c).move.changeover = s.move.changeover) ∧
      (s.reach r c).prot = (if (s.prot.record r).latched && (s.prot.record r).hasCause c then s.prot
        else s.prot.setRecord r ((s.prot.record r).reach c s.time.clock s.time.lost)) := by
  have hs := prot_settled (s.prot.setRecord r ((s.prot.record r).reach c s.time.clock s.time.lost))
    (s.ports.raiseOps .trip true) s rfl (after_raiseOps _ _ _)
  cases hl : (s.prot.record r).latched
  · rw [reach_latches hl]
    obtain ⟨h1, h2, h3, -, h5⟩ := latchEffects_settled r
      { s with prot := s.prot.setRecord r ((s.prot.record r).reach c s.time.clock s.time.lost)
               ports := s.ports.raiseOps .trip true }
    exact ⟨settled_trans hs h1, h3, h5, by simpa using h2⟩
  · cases hc : (s.prot.record r).hasCause c
    · rw [reach_joins hl hc]; exact ⟨hs, rfl, fun _ => ⟨rfl, rfl⟩, by simp⟩
    · rw [reach_member hl hc]; exact ⟨settled_refl s, rfl, fun _ => ⟨rfl, rfl⟩, by simp⟩

/-- All that an internal cause can do (R89 to R91, R134). -/
theorem handCause_settled (u : Fin 4) (c : TripCause) (s : State) :
    s.settled none (s.handCause u c) ∧
      (s.handCause u c).prot = (({ s with duty := s.duty.tripUnit u } : State).reach (.unit u) c).prot ∧
      (s.handCause u c).move.mode = s.move.mode ∧ (s.handCause u c).move.wanted = s.move.wanted ∧
      (s.handCause u c).move.changeover = s.move.changeover := by
  obtain ⟨h1, h2, h3, -⟩ := reach_settled (.unit u) c { s with duty := s.duty.tripUnit u }
  obtain ⟨p1, p2, -, p4, p5, p6⟩ := propagate_rederived false
    (({ s with duty := s.duty.tripUnit u } : State).reach (.unit u) c)
  have h3' := h3 (by simp)
  exact ⟨settled_trans (settled_trans (duty_settled _ s (sameCounts_tripUnit u _)) h1) p1, p2, p4.trans h3'.1,
    p5.trans h2, p6.trans h3'.2⟩

/-- A unit's release touches the units alone (R92). -/
theorem releaseUnit_rederived (u : Fin 4) (s : State) : s.rederived none (s.releaseUnit u) := by
  unfold State.releaseUnit
  split
  · exact rederived_refl s
  · exact duty_rederived _ s (sameCounts_set _ _ _ (release_counts _).1 (release_counts _).2)

theorem releaseUnits_rederived (s : State) : s.rederived none s.releaseUnits := by
  unfold State.releaseUnits
  generalize unitIndices = l
  induction l generalizing s with
  | nil => exact rederived_refl s
  | cons u l ih => exact rederived_trans (releaseUnit_rederived u s) (ih _)

/-- All that the clear of the site record does to the site mode (R10). -/
theorem leaveShutdown_settled (s : State) :
    s.settled none s.leaveShutdown ∧ s.leaveShutdown.prot = s.prot ∧
      (s.params.siteControl = .manual →
        s.leaveShutdown.move.mode = .hold ∧ s.leaveShutdown.move.wanted = .hold ∧ s.leaveShutdown.move.changeover = none) ∧
      (s.params.siteControl = .auto →
        s.leaveShutdown = (s.setMode .hold none).autoEvaluate) := by
  obtain ⟨h1, h2, h3, -, h5⟩ := setMode_settled .hold none s
  have hp : (s.setMode .hold none).params = s.params := h1.1.2.2.2.2.2.2.1
  unfold State.leaveShutdown
  dsimp only
  cases hc : s.params.siteControl
  · rw [if_pos (by rw [hp]; exact hc)]
    obtain ⟨a1, a2⟩ := autoEvaluate_settled (s.setMode .hold none)
    exact ⟨settled_trans h1 a1, a2.trans h5, fun h => (by cases h), fun _ => rfl⟩
  · rw [if_neg (by rw [hp, hc]; decide)]
    exact ⟨settled_trans h1 (move_settled { (s.setMode .hold none).move with wanted := .hold } (s.setMode .hold none).duty
      (s.setMode .hold none) (fun _ => rfl) (sameCounts_refl _)), h5, fun _ => ⟨h2, rfl, h3⟩, fun h => (by cases h)⟩

/-- All that the clear of a record can do (R136, R138). -/
theorem clearRecord_settled (r : RecordId) (s : State) :
    s.settled none (s.clearRecord r) ∧ (s.clearRecord r).prot = s.prot.setRecord r .clear ∧
      (r ≠ .site → (s.clearRecord r).move.mode = s.move.mode ∧
        (s.clearRecord r).move.changeover = s.move.changeover ∧ (s.clearRecord r).move.wanted = s.move.wanted) := by
  have hs : s.settled none { s with prot := s.prot.setRecord r .clear } :=
    prot_settled _ s.ports s rfl (after_refl _)
  cases r with
  | site =>
    have key : ∀ a : State, s.settled none a → a.prot = s.prot.setRecord .site .clear →
        s.settled none (a.deriveTrains.leaveShutdown.propagate false) ∧
          (a.deriveTrains.leaveShutdown.propagate false).prot = s.prot.setRecord .site .clear := by
      intro a h1 e
      obtain ⟨h3, h3', -, -⟩ := leaveShutdown_settled a.deriveTrains
      obtain ⟨p1, p2, -⟩ := propagate_rederived false a.deriveTrains.leaveShutdown
      exact ⟨settled_trans h1 (settled_trans (deriveTrains_settled a) (settled_trans h3 p1)),
        by rw [p2, h3', State.deriveTrains_prot, e]⟩
    have h1 := releaseUnits_rederived { s with prot := s.prot.setRecord .site .clear }
    obtain ⟨k1, k2⟩ := key _ (settled_trans hs h1.1) h1.2.1
    exact ⟨k1, k2, fun h => absurd rfl h⟩
  | unit u =>
    obtain ⟨h1, h2, -, h4, h5, h6⟩ :=
      rederived_trans (releaseUnit_rederived u { s with prot := s.prot.setRecord (.unit u) .clear })
        (propagate_rederived false _)
    exact ⟨settled_trans hs h1, h2, fun _ => ⟨h4, h6, h5⟩⟩
  | cavern c =>
    obtain ⟨h1, h2, -, h4, h5, h6⟩ := propagate_rederived false { s with prot := s.prot.setRecord (.cavern c) .clear }
    exact ⟨settled_trans hs h1, h2, fun _ => ⟨h4, h6, h5⟩⟩
  | train t =>
    obtain ⟨h1, h2, -, h4, h5, h6⟩ := propagate_rederived false
      (({ s with prot := s.prot.setRecord (.train t) .clear } : State).deriveTrain t)
    exact ⟨settled_trans hs (settled_trans (deriveTrain_settled t _) h1), h2, fun _ => ⟨h4, h6, h5⟩⟩

/-! ### Channels and points -/

theorem setChannel_settled (c : Fin 32) (v : ChannelState) (s : State) :
    s.settled none { s with prot := s.prot.setChannel c v } := prot_settled _ s.ports s rfl (after_refl _)

theorem enterAdvisory_settled (c : Fin 32) (s : State) : s.settled none (s.enterAdvisory c) :=
  prot_settled _ _ s rfl (after_raiseOps _ _ _)

theorem reachAll_settled (l : List RecordId) (c : TripCause) (s : State) :
    s.settled none (l.foldl (fun s r => s.reach r c) s) := by
  induction l generalizing s with
  | nil => exact settled_refl s
  | cons r l ih => exact settled_trans (reach_settled r c s).1 (ih _)

/-- All that a channel becoming active can do (R131 to R133). -/
theorem becomeActive_settled (c : Fin 32) (s : State) : s.settled none (s.becomeActive c) := by
  unfold State.becomeActive
  refine settled_trans (setChannel_settled c { source := true, timer := none, live := true } s) ?_
  dsimp only
  split
  · exact (reach_settled _ _ _).1
  · exact reachAll_settled _ _ _
  · exact enterAdvisory_settled _ _

/-- All that the evaluation of a channel can do (R126, R128). -/
theorem evalChannel_settled (c : Fin 32) (s : State) : s.settled none (s.evalChannel c) := by
  unfold State.evalChannel
  split
  · dsimp only
    split
    · exact settled_refl s
    · split
      · unfold State.sourceRises
        dsimp only
        split
        · exact becomeActive_settled c s
        · exact setChannel_settled c _ s
      · exact setChannel_settled c _ s
  · exact settled_refl s

theorem evalChannels_settled (reads : ChannelConfig → Bool) (s : State) : s.settled none (s.evalChannels reads) := by
  unfold State.evalChannels
  generalize List.finRange 32 = l
  induction l generalizing s with
  | nil => exact settled_refl s
  | cons c l ih =>
    refine settled_trans ?_ (ih _)
    dsimp only
    split
    · exact evalChannel_settled c s
    · exact settled_refl s

/-- All that a point's new state can do (R38, R39): the survey gains that state, and the rest is carried through. -/
theorem updatePoint_settled (p : Fin 48) (v : PointState) (published : Bool) (s : State) :
    (s.setPoint p v).settled none (s.updatePoint p v published) := by
  have hr : ∀ b : Bool, (s.setPoint p v).settled none
      { s.setPoint p v with ports := (s.setPoint p v).ports.raiseOps .pointAlarm b } := fun b =>
    prot_settled (s.setPoint p v).prot _ (s.setPoint p v) rfl (after_raiseOps _ _ _)
  have key : ∀ (f1 f2 f3 : Bool) (x : State), x.settled none
      (let y := if f1 then x.dewActions p else x
       let z := if f2 then y.propagate false else y
       if f3 then z.evalChannels (·.readsPoint p) else z) := by
    intro f1 f2 f3 x
    have h1 : x.settled none (if f1 then x.dewActions p else x) := by
      cases f1
      · exact settled_refl x
      · exact dewActions_settled p x
    generalize (if f1 then x.dewActions p else x) = y at h1 ⊢
    have h2 : x.settled none (if f2 then y.propagate false else y) := by
      cases f2
      · exact h1
      · exact settled_trans h1 (propagate_rederived false y).1
    dsimp only
    generalize (if f2 then y.propagate false else y) = z at h2 ⊢
    cases f3
    · exact h2
    · exact settled_trans h2 (evalChannels_settled _ z)
  exact settled_trans
    (hr (v.alarmHigh != s.survey.points[p].alarmHigh || v.alarmLow != s.survey.points[p].alarmLow)) (key _ _ _ _)

/-- A sample entered (R33 to R35). -/
theorem enterSample_settled (p : Fin 48) (v : Option Int) (s : State) :
    (s.setPoint p ((s.survey.points[p]).sample s.params.points[p] v).1).settled none (s.enterSample p v) :=
  updatePoint_settled p _ _ s

/-! ### The end of a command -/

/-- Driving the outputs settles nothing further. -/
theorem settled_driveOutputs {s t : State} {who : Option Port} (h : s.settled who t) : s.settled who t.driveOutputs := h

theorem rederived_driveOutputs {s t : State} {who : Option Port} (h : s.rederived who t) :
    s.rederived who t.driveOutputs := h

/-- A settled event answered at a port whose answer is not sent yet. -/
theorem after_answered {p q : Ports} (x : Port) (a : Answer) (h : p.after none q) :
    p.after (some x) (q.set ((q.get x).send a) x) := by
  obtain ⟨h1, h2, h3⟩ := h
  refine ⟨fun y hy => ?_, by simpa using h2, by simpa using h3⟩
  have hy' := h1 y hy
  simp only [reduceCtorEq, if_false] at hy'
  by_cases e : y = x
  · subst e
    simp only [if_true, Ports.get_set]
    obtain ⟨g1, g2⟩ := hy'
    refine ⟨?_, g2⟩
    rw [g1]; rfl
  · rw [if_neg (by simpa using fun h => e h.symm), Ports.get_set_of_ne _ _ e]
    exact hy'

/-- A settled event answered at the port of its request. -/
theorem settled_answered {s t : State} (r : Request) (k : ReqKind) (c : AnswerCode) (content : List Byte)
    (h : s.settled none t) : s.settled (some r.port) (answered r k c content t) := by
  obtain ⟨⟨h1, h2, h3, h4, h5, h6, h7, h8, h9, h10, hp⟩, hm, hc⟩ := h
  refine ⟨⟨h1, h2, h3, h4, h5, h6, h7, h8, h9, h10, after_answered r.port _ hp⟩, hm, fun hd => ?_⟩
  have he := hc hd
  have causes : ∀ y : Port, ∀ a, ((t.ports.set ((t.ports.get r.port).send a) r.port).get y).causes = (t.ports.get y).causes := by
    intro y a; cases y <;> cases r.port <;> rfl
  exact ⟨(congrArg (·.getLsbD 5) (causes .com _)).trans he.1, (congrArg (·.getLsbD 5) (causes .ops _)).trans he.2⟩

/-- A rederived event answered at the port of its request. -/
theorem rederived_answered {s t : State} (r : Request) (k : ReqKind) (c : AnswerCode) (content : List Byte)
    (h : s.rederived none t) : s.rederived (some r.port) (answered r k c content t) :=
  ⟨settled_answered r k c content h.1, h.2⟩

end Sys2Proof.Machine
end

