-- ==== Sys2Proof/Laws/Link.lean ====
section
/-! SUPPORT. The link controller's shared operations, once each: the start of the next transaction, an offer, a unit's health
and lines, and the relation of the model's health columns to the table of R74. -/

namespace Sys2Proof.Machine

/-- The columns of R74. -/
theorem success_eq (h : UnitHealth) : h.success = healthAfter true h := rfl

theorem failure_eq (h : UnitHealth) (hd : h.health = .degraded → h.failures = 1 ∨ h.failures = 2) :
    h.failure = healthAfter false h := by
  obtain ⟨st, n⟩ := h
  cases st
  · rfl
  · obtain h | h := hd rfl <;> (cases h; rfl)
  · rfl

/-- The next transaction starts where nothing holds the link and one waits (R71). -/
theorem startNext_starts {t : Nat} {l : Link} {e : Entry} {rest : List Entry} (hf : l.flight = none)
    (hs : l.settle = none) (hq : l.queue = e :: rest) :
    l.startNext t =
      { l with queue := rest, started := l.started + 1,
               flight := some { entry := e, tag := BitVec.ofNat 8 (l.started + 1), retry := false, timeout := t,
                                timer := none } } := by
  simp [Link.startNext, hf, hs, hq]

/-- Nothing starts while a transaction is in flight, a settle wait runs, or none waits (R71). -/
theorem startNext_waits {t : Nat} {l : Link} (h : l.flight ≠ none ∨ l.settle ≠ none ∨ l.queue = []) :
    l.startNext t = l := by
  unfold Link.startNext
  split
  · next hf hs hq => rcases h with h | h | h <;> simp_all
  · rfl

/-- An offer is refused with eight waiting (R70). -/
theorem offer_full {t : Nat} {e : Entry} {l : Link} (h : 8 ≤ l.queue.length) : l.offer t e = none := by
  have h' : ¬ l.queue.length < Config.queueSize := Nat.not_lt.mpr h
  simp [Link.offer, h']

/-- An accepted offer starts at once or waits at the tail (R70, R71). -/
theorem offer_accepted {t : Nat} {e : Entry} {l : Link} (h : l.queue.length < 8)
    (hi : l.flight = none → l.settle = none → l.queue = []) : l.offer t e = some (linkAfterOffer t e l) := by
  have h' : l.queue.length < Config.queueSize := h
  simp only [Link.offer, h', if_true, linkAfterOffer]
  by_cases hf : l.flight = none ∧ l.settle = none
  · rw [if_pos hf, startNext_starts (l := { l with queue := l.queue ++ [e] }) (e := e) (rest := []) hf.1 hf.2
      (by simp [hi hf.1 hf.2])]
    simp [hi hf.1 hf.2]
  · rw [if_neg hf, startNext_waits]
    by_cases g : l.flight = none
    · exact Or.inr (Or.inl fun x => hf ⟨g, x⟩)
    · exact Or.inl g

/-- An offer changes the link alone. -/
theorem offer_link {e : Entry} {s t : State} (h : s.offer e = some t) : ∃ l, t = { s with link := l } := by
  obtain ⟨l, -, rfl⟩ := Option.map_eq_some_iff.mp h
  exact ⟨l, rfl⟩

/-- All that a unit's new health and lines can do (R74, R75): the link holds them, and the rest is carried through. -/
theorem setUnitLink_settled (u : Fin 6) (h : UnitHealth) (ls : Vector Bool 4) (s : State) :
    ({ s with link := { s.link with health := s.link.health.set u h, lines := s.link.lines.set u ls } } :
      State).settled none (s.setUnitLink u h ls) := by
  let x : State := { s with link := { s.link with health := s.link.health.set u h, lines := s.link.lines.set u ls } }
  have h1 := prot_settled x.prot (x.ports.raiseOps .linkState (h.health != s.link.health[u].health)) x rfl
    (after_raiseOps _ _ _)
  exact settled_trans (settled_trans h1 (propagate_rederived false _).1) (evalChannels_settled _ _)

theorem unitSuccess_eq (u : Fin 6) (ls : Vector Bool 4) (s : State) :
    s.unitSuccess u ls = s.setUnitLink u (healthAfter true s.link.health[u]) ls := rfl

/-- What an outcome's report changes for each originator (R32, R73, R82). -/
theorem report_poll {e : Entry} {o : LinkOutcome} {s : State} (h : e.origin = .surveyPoll) :
    s.report e o = { s with survey := s.survey.report } := by
  simp [State.report, h, State.reportPass]

theorem report_early {e : Entry} {o : LinkOutcome} {s : State} {rp : RemotePort} (h : e.origin = .port rp .early) :
    s.report e o =
      (let result : RemoteResult :=
        { isWrite := e.kind == .write, unit := e.unit, device := e.device, first := e.first, count := e.count,
          outcome := outcomeFor e.kind o }
       ({ s with ports := s.ports.setRemote { s.ports.remote rp with slot := .ready result } rp } : State).onPort rp.port
        (·.raise .remoteDone)) := by
  simp [State.report, h]

theorem report_hold {e : Entry} {o : LinkOutcome} {s : State} {rp : RemotePort} (h : e.origin = .port rp .hold) :
    s.report e o = s.onPort rp.port
      (·.deliver (heldAnswer (outcomeFor e.kind o)).1 (heldAnswer (outcomeFor e.kind o)).2) := by
  simp [State.report, h]

end Sys2Proof.Machine
end

