-- ==== Sys2Proof/Laws/PerInstr.lean ====
section
/-! SUPPORT. One lemma per command about its frame: a well-formed request is the command that its own tag, kind and payload
bytes decode to (R183, R189). An event is no request, and the lemma says so by having nothing to show. -/

namespace Sys2Proof.Laws

open Sys2Proof.Machine

/-- A well-formed request is what the body of its frame decodes to. -/
def DecodesBody.Statement (i : Instr) : Prop :=
  i.wf = true → ∀ x, requestOf i = some x →
    ∃ taking, decodeBody x.2.port taking (x.2.tag :: x.1 :: x.2.payload) = some i

theorem DecodesBody.readStatus (r : Request) : DecodesBody.Statement (.readStatus r) := by
  intro _ x hx; cases hx; exact ⟨.atOnce, rfl⟩

theorem DecodesBody.readPoints (r : Request) : DecodesBody.Statement (.readPoints r) := by
  intro _ x hx; cases hx; exact ⟨.atOnce, rfl⟩

theorem DecodesBody.readIntervals (r : Request) : DecodesBody.Statement (.readIntervals r) := by
  intro _ x hx; cases hx; exact ⟨.atOnce, rfl⟩

theorem DecodesBody.readAccounts (r : Request) : DecodesBody.Statement (.readAccounts r) := by
  intro _ x hx; cases hx; exact ⟨.atOnce, rfl⟩

theorem DecodesBody.readDayRecords (r : Request) : DecodesBody.Statement (.readDayRecords r) := by
  intro _ x hx; cases hx; exact ⟨.atOnce, rfl⟩

theorem DecodesBody.readNominations (r : Request) : DecodesBody.Statement (.readNominations r) := by
  intro _ x hx; cases hx; exact ⟨.atOnce, rfl⟩

theorem DecodesBody.readParameters (r : Request) : DecodesBody.Statement (.readParameters r) := by
  intro _ x hx; cases hx; exact ⟨.atOnce, rfl⟩

theorem DecodesBody.ackCauses (r : Request) : DecodesBody.Statement (.ackCauses r) := by
  intro _ x hx; cases hx; exact ⟨.atOnce, rfl⟩

theorem DecodesBody.setMask (r : Request) : DecodesBody.Statement (.setMask r) := by
  intro _ x hx; cases hx; exact ⟨.atOnce, rfl⟩

theorem DecodesBody.remoteRead (r : Request) : DecodesBody.Statement (.remoteRead r) := by
  intro _ x hx; cases hx; exact ⟨.atOnce, rfl⟩

theorem DecodesBody.remoteWrite (r : Request) : DecodesBody.Statement (.remoteWrite r) := by
  intro _ x hx; cases hx; exact ⟨.atOnce, rfl⟩

theorem DecodesBody.writeStaging (r : Request) : DecodesBody.Statement (.writeStaging r) := by
  intro _ x hx; cases hx; exact ⟨.atOnce, rfl⟩

theorem DecodesBody.readStaging (r : Request) : DecodesBody.Statement (.readStaging r) := by
  intro _ x hx; cases hx; exact ⟨.atOnce, rfl⟩

theorem DecodesBody.setAnswerMode (r : Request) : DecodesBody.Statement (.setAnswerMode r) := by
  intro _ x hx; cases hx; exact ⟨.atOnce, rfl⟩

theorem DecodesBody.fetchRemote (r : Request) : DecodesBody.Statement (.fetchRemote r) := by
  intro _ x hx; cases hx; exact ⟨.atOnce, rfl⟩

theorem DecodesBody.setSiteControl (r : Request) : DecodesBody.Statement (.setSiteControl r) := by
  intro _ x hx; cases hx; exact ⟨.atOnce, rfl⟩

theorem DecodesBody.setSiteMode (r : Request) : DecodesBody.Statement (.setSiteMode r) := by
  intro _ x hx; cases hx; exact ⟨.atOnce, rfl⟩

theorem DecodesBody.setChangeoverTime (r : Request) : DecodesBody.Statement (.setChangeoverTime r) := by
  intro _ x hx; cases hx; exact ⟨.atOnce, rfl⟩

theorem DecodesBody.setCavern (r : Request) : DecodesBody.Statement (.setCavern r) := by
  intro _ x hx; cases hx; exact ⟨.atOnce, rfl⟩

theorem DecodesBody.setPipeline (r : Request) : DecodesBody.Statement (.setPipeline r) := by
  intro _ x hx; cases hx; exact ⟨.atOnce, rfl⟩

theorem DecodesBody.setCavernInventory (r : Request) : DecodesBody.Statement (.setCavernInventory r) := by
  intro _ x hx; cases hx; exact ⟨.atOnce, rfl⟩

theorem DecodesBody.setPoint (r : Request) : DecodesBody.Statement (.setPoint r) := by
  intro _ x hx; cases hx; exact ⟨.atOnce, rfl⟩

theorem DecodesBody.setSurveyPeriod (r : Request) : DecodesBody.Statement (.setSurveyPeriod r) := by
  intro _ x hx; cases hx; exact ⟨.atOnce, rfl⟩

theorem DecodesBody.setLink (r : Request) : DecodesBody.Statement (.setLink r) := by
  intro _ x hx; cases hx; exact ⟨.atOnce, rfl⟩

theorem DecodesBody.startUnit (r : Request) : DecodesBody.Statement (.startUnit r) := by
  intro _ x hx; cases hx; exact ⟨.atOnce, rfl⟩

theorem DecodesBody.stopUnit (r : Request) : DecodesBody.Statement (.stopUnit r) := by
  intro _ x hx; cases hx; exact ⟨.atOnce, rfl⟩

theorem DecodesBody.setUnit (r : Request) : DecodesBody.Statement (.setUnit r) := by
  intro _ x hx; cases hx; exact ⟨.atOnce, rfl⟩

theorem DecodesBody.setDuty (r : Request) : DecodesBody.Statement (.setDuty r) := by
  intro _ x hx; cases hx; exact ⟨.atOnce, rfl⟩

theorem DecodesBody.setRunSeconds (r : Request) : DecodesBody.Statement (.setRunSeconds r) := by
  intro _ x hx; cases hx; exact ⟨.atOnce, rfl⟩

theorem DecodesBody.setTower (r : Request) : DecodesBody.Statement (.setTower r) := by
  intro _ x hx; cases hx; exact ⟨.atOnce, rfl⟩

theorem DecodesBody.setTrain (r : Request) : DecodesBody.Statement (.setTrain r) := by
  intro _ x hx; cases hx; exact ⟨.atOnce, rfl⟩

theorem DecodesBody.setDryer (r : Request) : DecodesBody.Statement (.setDryer r) := by
  intro _ x hx; cases hx; exact ⟨.atOnce, rfl⟩

theorem DecodesBody.setChannel (r : Request) : DecodesBody.Statement (.setChannel r) := by
  intro _ x hx; cases hx; exact ⟨.atOnce, rfl⟩

theorem DecodesBody.resetTrip (r : Request) : DecodesBody.Statement (.resetTrip r) := by
  intro h x hx
  cases hx
  refine ⟨.atOnce, ?_⟩
  have h' : r.payload ≠ [13#8] := by simpa [Instr.wf] using (Bool.and_eq_true_iff.mp h).2
  show some (if r.payload = [13#8] then _ else Instr.resetTrip r) = _
  rw [if_neg h']

theorem DecodesBody.resetTripAdvisory (port : Port) (tag : Byte) : DecodesBody.Statement (.resetTripAdvisory port tag) := by
  intro _ x hx; cases hx; exact ⟨.atOnce, rfl⟩

theorem DecodesBody.setCv (r : Request) : DecodesBody.Statement (.setCv r) := by
  intro _ x hx; cases hx; exact ⟨.atOnce, rfl⟩

theorem DecodesBody.setClock (r : Request) (taking : Taking) : DecodesBody.Statement (.setClock r taking) := by
  intro _ x hx; cases hx; exact ⟨taking, rfl⟩

theorem DecodesBody.setLineRate (r : Request) : DecodesBody.Statement (.setLineRate r) := by
  intro _ x hx; cases hx; exact ⟨.atOnce, rfl⟩

theorem DecodesBody.restart (r : Request) : DecodesBody.Statement (.restart r) := by
  intro _ x hx; cases hx; exact ⟨.atOnce, rfl⟩

theorem DecodesBody.stageOpening (r : Request) : DecodesBody.Statement (.stageOpening r) := by
  intro _ x hx; cases hx; exact ⟨.atOnce, rfl⟩

theorem DecodesBody.openBook (r : Request) : DecodesBody.Statement (.openBook r) := by
  intro _ x hx; cases hx; exact ⟨.atOnce, rfl⟩

theorem DecodesBody.setShipper (r : Request) : DecodesBody.Statement (.setShipper r) := by
  intro _ x hx; cases hx; exact ⟨.atOnce, rfl⟩

theorem DecodesBody.transfer (r : Request) : DecodesBody.Statement (.transfer r) := by
  intro _ x hx; cases hx; exact ⟨.atOnce, rfl⟩

theorem DecodesBody.nominate (r : Request) : DecodesBody.Statement (.nominate r) := by
  intro _ x hx; cases hx; exact ⟨.atOnce, rfl⟩

theorem DecodesBody.setRatchet (r : Request) : DecodesBody.Statement (.setRatchet r) := by
  intro _ x hx; cases hx; exact ⟨.atOnce, rfl⟩

theorem DecodesBody.setLeadTime (r : Request) : DecodesBody.Statement (.setLeadTime r) := by
  intro _ x hx; cases hx; exact ⟨.atOnce, rfl⟩

theorem DecodesBody.resetEntryCounter (r : Request) : DecodesBody.Statement (.resetEntryCounter r) := by
  intro _ x hx; cases hx; exact ⟨.atOnce, rfl⟩

theorem DecodesBody.setMetrology (r : Request) : DecodesBody.Statement (.setMetrology r) := by
  intro _ x hx; cases hx; exact ⟨.atOnce, rfl⟩

theorem DecodesBody.readMetrologyList (r : Request) : DecodesBody.Statement (.readMetrologyList r) := by
  intro _ x hx; cases hx; exact ⟨.atOnce, rfl⟩

theorem DecodesBody.clearMetrologyList (r : Request) : DecodesBody.Statement (.clearMetrologyList r) := by
  intro _ x hx; cases hx; exact ⟨.atOnce, rfl⟩

theorem DecodesBody.undefinedRequestKind (r : Request) (kind : Byte) : DecodesBody.Statement (.undefinedRequestKind r kind) := by
  intro h x hx
  cases hx
  refine ⟨.atOnce, ?_⟩
  have h' : kindOfCode kind.toNat = none := by
    simpa using (Bool.and_eq_true_iff.mp h).2
  simp [decodeBody, h']

theorem DecodesBody.frameCrcError (port : Port) : DecodesBody.Statement (.frameCrcError port) := by
  intro _ x hx; cases hx

theorem DecodesBody.frameLengthInvalid (port : Port) (length : Byte) : DecodesBody.Statement (.frameLengthInvalid port length) := by
  intro _ x hx; cases hx

theorem DecodesBody.framePauseTimeout (port : Port) : DecodesBody.Statement (.framePauseTimeout port) := by
  intro _ x hx; cases hx

theorem DecodesBody.heldFrameDiscard (port : Port) : DecodesBody.Statement (.heldFrameDiscard port) := by
  intro _ x hx; cases hx

theorem DecodesBody.answerSent (port : Port) : DecodesBody.Statement (.answerSent port) := by
  intro _ x hx; cases hx

theorem DecodesBody.restartReset : DecodesBody.Statement .restartReset := by
  intro _ x hx; cases hx

theorem DecodesBody.powerFail : DecodesBody.Statement .powerFail := by
  intro _ x hx; cases hx

theorem DecodesBody.powerOn (backup : Option (BitVec 32)) : DecodesBody.Statement (.powerOn backup) := by
  intro _ x hx; cases hx

theorem DecodesBody.resetInputAssert : DecodesBody.Statement .resetInputAssert := by
  intro _ x hx; cases hx

theorem DecodesBody.resetInputRelease : DecodesBody.Statement .resetInputRelease := by
  intro _ x hx; cases hx

theorem DecodesBody.startUpComplete (order : Order) : DecodesBody.Statement (.startUpComplete order) := by
  intro _ x hx; cases hx

theorem DecodesBody.clockTick : DecodesBody.Statement .clockTick := by
  intro _ x hx; cases hx

theorem DecodesBody.intervalClose (taking : Taking) : DecodesBody.Statement (.intervalClose taking) := by
  intro _ x hx; cases hx

theorem DecodesBody.hourEvent (order : Order) : DecodesBody.Statement (.hourEvent order) := by
  intro _ x hx; cases hx

theorem DecodesBody.changeoverExpiry : DecodesBody.Statement .changeoverExpiry := by
  intro _ x hx; cases hx

theorem DecodesBody.passDue (samples : Vector Reg16 16) : DecodesBody.Statement (.passDue samples) := by
  intro _ x hx; cases hx

theorem DecodesBody.pulseInputChange (channel : Fin 8) (a b : Bool) : DecodesBody.Statement (.pulseInputChange channel a b) := by
  intro _ x hx; cases hx

theorem DecodesBody.pinLevelChange (pin : Fin 16) (high : Bool) : DecodesBody.Statement (.pinLevelChange pin high) := by
  intro _ x hx; cases hx

theorem DecodesBody.feedbackChange (unit : Fin 4) (active : Bool) : DecodesBody.Statement (.feedbackChange unit active) := by
  intro _ x hx; cases hx

theorem DecodesBody.sealInputChange (isOpen : Bool) : DecodesBody.Statement (.sealInputChange isOpen) := by
  intro _ x hx; cases hx

theorem DecodesBody.linkFrameReceived (frame : LinkFrame) : DecodesBody.Statement (.linkFrameReceived frame) := by
  intro _ x hx; cases hx

theorem DecodesBody.attemptTransmitted : DecodesBody.Statement .attemptTransmitted := by
  intro _ x hx; cases hx

theorem DecodesBody.attemptTimeout : DecodesBody.Statement .attemptTimeout := by
  intro _ x hx; cases hx

theorem DecodesBody.settleWaitExpiry : DecodesBody.Statement .settleWaitExpiry := by
  intro _ x hx; cases hx

theorem DecodesBody.startTimeExpiry (unit : Fin 4) : DecodesBody.Statement (.startTimeExpiry unit) := by
  intro _ x hx; cases hx

theorem DecodesBody.cooldownExpiry (unit : Fin 4) : DecodesBody.Statement (.cooldownExpiry unit) := by
  intro _ x hx; cases hx

theorem DecodesBody.stopDelayExpiry : DecodesBody.Statement .stopDelayExpiry := by
  intro _ x hx; cases hx

theorem DecodesBody.heatingExpiry (tower : Fin 4) : DecodesBody.Statement (.heatingExpiry tower) := by
  intro _ x hx; cases hx

theorem DecodesBody.coolingExpiry (tower : Fin 4) : DecodesBody.Statement (.coolingExpiry tower) := by
  intro _ x hx; cases hx

theorem DecodesBody.debounceExpiry (channel : Fin 32) : DecodesBody.Statement (.debounceExpiry channel) := by
  intro _ x hx; cases hx

theorem DecodesBody.frameStart (port : Port) : DecodesBody.Statement (.frameStart port) := by
  intro _ x hx; cases hx

end Sys2Proof.Laws
end

