-- ==== Sys2Proof/Laws/Records.lean ====
section
/-! SUPPORT. What the taking of a completed record can do (R64): each block's part leaves alone all but its own state, and
`takeRecord` does what `State.takenBy` says, once for both orders. -/

namespace Sys2Proof.Machine

/-- All that no taking of a record reaches: supply, time base, survey, link, flow computer, parameters, images, protection,
waiting commands, and the site mode. -/
def State.sameAround (s t : State) : Prop :=
  t.power = s.power ∧ t.time = s.time ∧ t.survey = s.survey ∧ t.link = s.link ∧ t.flow = s.flow ∧ t.params = s.params ∧
  t.metro = s.metro ∧ t.store = s.store ∧ t.prot = s.prot ∧ t.pending = s.pending ∧ t.move.mode = s.move.mode ∧
  t.move.wanted = s.move.wanted ∧ t.move.changeover = s.move.changeover

theorem sameAround_refl (s : State) : s.sameAround s :=
  ⟨rfl, rfl, rfl, rfl, rfl, rfl, rfl, rfl, rfl, rfl, rfl, rfl, rfl⟩

theorem sameAround_trans {s t u : State} (h : s.sameAround t) (g : t.sameAround u) : s.sameAround u := by
  unfold State.sameAround at *
  simp_all

/-! ### The three parts -/

/-- One cavern's part (R16 to R18) is its ring and inventory, carried through the blocks that read them (R14). -/
theorem cavernTakes_rederived (x : IntervalRecord) (s : State) (i : Fin 6) :
    let c := (s.move.caverns[i]).onRecord s.params.caverns[i].maxRate (s.cavernPoint i).quality (s.cavernPoint i).value
      x.channels[i.castAdd 2].energy
    ({ s with move := { s.move with caverns := s.move.caverns.set i c } } : State).rederived none (s.cavernTakes x i) :=
  propagate_rederived _ _

theorem cavernTakes_frame (x : IntervalRecord) (s : State) (i : Fin 6) :
    s.sameAround (s.cavernTakes x i) ∧ (s.cavernTakes x i).dryer = s.dryer ∧ (s.cavernTakes x i).book = s.book := by
  obtain ⟨⟨⟨hp, ht, hv, hl, hf, hb, ha, hm, hs, hq, -⟩, -⟩, hr, hd, h1, h2, h3⟩ := cavernTakes_rederived x s i
  exact ⟨⟨hp, ht, hv, hl, hf, ha, hm, hs, hr, hq, h1, h2, h3⟩, hd, hb⟩

/-- A cavern's part changes its own record, and no other cavern's ring, inventory or RESTRICTED. -/
theorem cavernTakes_cavern (x : IntervalRecord) (s : State) (i j : Fin 6) :
    let new := (s.cavernTakes x i).move.caverns[j]
    let c := if j = i then (s.move.caverns[j]).onRecord s.params.caverns[j].maxRate (s.cavernPoint j).quality
      (s.cavernPoint j).value x.channels[j.castAdd 2].energy else s.move.caverns[j]
    new.inventory = c.inventory ∧ new.ring = c.ring ∧ new.restricted = c.restricted := by
  obtain ⟨⟨-, h, -⟩, -⟩ := cavernTakes_rederived x s i
  have g := h.1 j
  by_cases e : j = i
  · subst e; simpa using g
  · have e' : i.val ≠ j.val := fun h => e (Fin.ext h.symm)
    simpa [e, Vector.getElem_set_ne, e'] using g

/-- What a cavern makes of a record depends on its inventory, its ring and RESTRICTED alone. -/
theorem onRecord_congr (maxRate : Int) (q : Quality) (v energy : Int) {c d : Cavern} (h1 : c.inventory = d.inventory)
    (h2 : c.ring = d.ring) (h3 : c.restricted = d.restricted) :
    (c.onRecord maxRate q v energy).inventory = (d.onRecord maxRate q v energy).inventory ∧
      (c.onRecord maxRate q v energy).ring = (d.onRecord maxRate q v energy).ring ∧
      (c.onRecord maxRate q v energy).restricted = (d.onRecord maxRate q v energy).restricted := by
  unfold Cavern.onRecord
  split <;> simp [h1, h2, h3]

/-- The parts of any caverns, one after the other. -/
theorem cavernsFold_spec (x : IntervalRecord) (l : List (Fin 6)) (hl : l.Nodup) (s : State) :
    let t := l.foldl (·.cavernTakes x ·) s
    (s.sameAround t ∧ t.dryer = s.dryer ∧ t.book = s.book) ∧ ∀ j : Fin 6,
      let c := if j ∈ l then (s.move.caverns[j]).onRecord s.params.caverns[j].maxRate (s.cavernPoint j).quality
        (s.cavernPoint j).value x.channels[j.castAdd 2].energy else s.move.caverns[j]
      t.move.caverns[j].inventory = c.inventory ∧ t.move.caverns[j].ring = c.ring ∧
        t.move.caverns[j].restricted = c.restricted := by
  induction l generalizing s with
  | nil => exact ⟨⟨sameAround_refl s, rfl, rfl⟩, fun j => ⟨rfl, rfl, rfl⟩⟩
  | cons i l ih =>
    obtain ⟨hi, hl⟩ := List.nodup_cons.mp hl
    obtain ⟨f1, f2, f3⟩ := cavernTakes_frame x s i
    obtain ⟨⟨g1, g2, g3⟩, g⟩ := ih hl (s.cavernTakes x i)
    refine ⟨⟨sameAround_trans f1 g1, g2.trans f2, g3.trans f3⟩, fun j => ?_⟩
    obtain ⟨-, -, hv, -, -, hp, -⟩ := f1
    have hc : (s.cavernTakes x i).cavernPoint j = s.cavernPoint j := by simp only [State.cavernPoint, hv, hp]
    obtain ⟨h1, h2, h3⟩ := cavernTakes_cavern x s i j
    obtain ⟨k1, k2, k3⟩ := g j
    rw [hp, hc] at k1 k2 k3
    simp only [List.foldl_cons, List.mem_cons]
    by_cases e : j = i
    · subst e
      simp only [hi, if_false, if_true, or_false] at h1 h2 h3 k1 k2 k3 ⊢
      exact ⟨k1.trans h1, k2.trans h2, k3.trans h3⟩
    · by_cases m : j ∈ l
      · simp only [e, m, if_true, if_false, or_true] at h1 h2 h3 k1 k2 k3 ⊢
        obtain ⟨m1, m2, m3⟩ := onRecord_congr s.params.caverns[j].maxRate (s.cavernPoint j).quality (s.cavernPoint j).value
          x.channels[j.castAdd 2].energy h1 h2 h3
        exact ⟨k1.trans m1, k2.trans m2, k3.trans m3⟩
      · simp only [e, m, if_false, or_false] at h1 h2 h3 k1 k2 k3 ⊢
        exact ⟨k1.trans h1, k2.trans h2, k3.trans h3⟩

theorem cavernsTake_frame (x : IntervalRecord) (s : State) :
    s.sameAround (s.cavernsTake x) ∧ (s.cavernsTake x).dryer = s.dryer ∧ (s.cavernsTake x).book = s.book :=
  (cavernsFold_spec x _ (List.nodup_finRange 6) s).1

/-- What the caverns' part does to one cavern. -/
theorem cavernsTake_cavern (x : IntervalRecord) (s : State) (i : Fin 6) :
    let new := (s.cavernsTake x).move.caverns[i]
    let c := (s.move.caverns[i]).onRecord s.params.caverns[i].maxRate (s.cavernPoint i).quality (s.cavernPoint i).value
      x.channels[i.castAdd 2].energy
    new.inventory = c.inventory ∧ new.ring = c.ring ∧ new.restricted = c.restricted := by
  simpa [State.cavernsTake] using (cavernsFold_spec x _ (List.nodup_finRange 6) s).2 i

/-- The dryer's part (R113) writes the dryer controller's state alone, and reads nothing of the caverns or the book. -/
theorem dryerTakes_frame (x : IntervalRecord) (s : State) :
    s.dryerTakes x = { s with dryer := (s.dryerTakes x).dryer } := by
  unfold State.dryerTakes
  split
  · simp only; split <;> rfl
  · rfl

theorem dryerTakes_dryer_congr {s t : State} (x : IntervalRecord) (h : s.sameAround t) (hd : t.dryer = s.dryer) :
    (t.dryerTakes x).dryer = (s.dryerTakes x).dryer := by
  obtain ⟨-, -, hv, -, -, hp, -, -, hr, -, hm, -⟩ := h
  by_cases hx : x.mode = .withdraw
  · cases h0 : s.dryer.trains[0].state.isDrying <;> cases h1 : s.dryer.trains[1].state.isDrying <;>
      simp only [State.dryerTakes, if_pos hx, State.loadTrain, State.onTrain, State.trainEnv, hd, hv, hp, hr, hm, h0, h1]
  · simp only [State.dryerTakes, if_neg hx, hd]

/-- The book's part (R167, R179) writes the book, and raises DAY_CLOSED at COM. -/
theorem bookTakes_frame (x : IntervalRecord) (s : State) :
    s.bookTakes x = { s with book := (s.book.take (s.ratesFor x) x).1, ports := (s.bookTakes x).ports } := rfl

/-- A record taken is the last allocated one (R167). -/
theorem take_lastSeq (rates : Vector Int 33) (x : IntervalRecord) (b : Book) : (b.take rates x).1.lastSeq = x.seq := by
  unfold Book.take Book.afterAllocation
  split
  · rfl
  · simp only
    split
    · split
      · rfl
      · split <;> rfl
    · rfl

/-! ### The taking as a whole -/

@[simp] theorem onlyIf_true (f : State → State) (s : State) : s.onlyIf true f = f s := rfl
@[simp] theorem onlyIf_false (f : State → State) (s : State) : s.onlyIf false f = s := rfl

theorem takeRecord_sameAround (order : Order) (who : Readers) (x : IntervalRecord) (s : State) :
    s.sameAround (s.takeRecord order who x) := by
  have hc (b : Bool) (s : State) : s.sameAround (s.onlyIf b (·.cavernsTake x)) := by
    cases b
    · exact sameAround_refl s
    · exact (cavernsTake_frame x s).1
  have hd (b : Bool) (s : State) : s.sameAround (s.onlyIf b (·.dryerTakes x)) := by
    cases b
    · exact sameAround_refl s
    · rw [onlyIf_true, dryerTakes_frame]; exact sameAround_refl s
  have hb (b : Bool) (s : State) : s.sameAround (s.onlyIf b (·.bookTakes x)) := by
    cases b <;> exact sameAround_refl s
  cases order
  · exact sameAround_trans (sameAround_trans (hc _ _) (hd _ _)) (hb _ _)
  · exact sameAround_trans (sameAround_trans (hb _ _) (hd _ _)) (hc _ _)

/-- The last `n + 1` of a list with one more value at its end. -/
theorem lastN_snoc {α : Type} (n : Nat) (l : List α) (v : α) :
    lastN (n + 1) (l ++ [v]) = l.drop (l.length - n) ++ [v] := by
  unfold lastN
  rw [List.length_append, List.length_singleton, Nat.add_sub_add_right, List.drop_append_of_le_length (Nat.sub_le _ _)]

/-- RESTRICTED once an entry has been appended (R17). -/
theorem restrictedAfter_snoc (l : List Int) (v maxRate : Int) (b : Bool) :
    ((l ++ [v]).length < 60 → restrictedAfter (l ++ [v]) maxRate b = false) ∧
    (∀ oldest, 60 ≤ (l ++ [v]).length → (l ++ [v]).head? = some oldest →
      let d : Int := (v - oldest).natAbs
      restrictedAfter (l ++ [v]) maxRate b =
        if maxRate < d then true else if 100 * d ≤ 80 * maxRate then false else b) := by
  obtain ⟨a, r, e⟩ : ∃ a r, l ++ [v] = a :: r := by
    cases l with
    | nil => exact ⟨v, [], rfl⟩
    | cons a l => exact ⟨a, l ++ [v], rfl⟩
  have hl : (a :: r).getLast? = some v := by rw [← e]; simp
  rw [e]
  unfold restrictedAfter
  simp only [hl, Config.ringSize, List.head?_cons, Option.some.injEq, gt_iff_lt]
  exact ⟨fun h => if_pos h, fun o h ho => by subst ho; exact if_neg (by omega)⟩

/-- What a cavern makes of a record (R16 to R18). -/
theorem onRecord_spec (maxRate : Int) (q : Quality) (v energy : Int) (c : Cavern) :
    let new := c.onRecord maxRate q v energy
    let ring := c.ring.drop (c.ring.length - 59) ++ [v]
    new.inventory = i64 (c.inventory + energy) ∧
    (q = .failed ∨ q = .unknown → new.ring = [] ∧ new.restricted = false) ∧
    (q = .good ∨ q = .held → new.ring = ring ∧ new.restricted = restrictedAfter ring maxRate c.restricted) := by
  have h := lastN_snoc 59 c.ring v
  cases q <;> simp [Cavern.onRecord, Quality.isBad, Config.ringSize, h]

/-- What the caverns' part has done to one cavern, said of the ring as the manual says it (R16 to R18). -/
theorem cavernsTake_taken {s s0 : State} (x : IntervalRecord) (h : s.sameAround s0)
    (hm : s0.move.caverns = s.move.caverns) (i : Fin 6) :
    let old := s.move.caverns[i]
    let new := (s0.cavernsTake x).move.caverns[i]
    let p := s.cavernPoint i
    let ring := old.ring.drop (old.ring.length - 59) ++ [p.value]
    new.inventory = i64 (old.inventory + x.channels[i.castAdd 2].energy) ∧
    (p.quality = .failed ∨ p.quality = .unknown → new.ring = [] ∧ new.restricted = false) ∧
    (p.quality = .good ∨ p.quality = .held →
      new.ring = ring ∧
      (ring.length < 60 → new.restricted = false) ∧
      (∀ oldest, 60 ≤ ring.length → ring.head? = some oldest →
        let d : Int := (p.value - oldest).natAbs
        new.restricted = (if s.params.caverns[i].maxRate < d then true
          else if 100 * d ≤ 80 * s.params.caverns[i].maxRate then false else old.restricted))) := by
  obtain ⟨-, -, hv, -, -, hp, -⟩ := h
  have hc : s0.cavernPoint i = s.cavernPoint i := by simp only [State.cavernPoint, hv, hp]
  obtain ⟨h1, h2, h3⟩ := cavernsTake_cavern x s0 i
  rw [hp, hc, hm] at h1 h2 h3
  obtain ⟨g1, g2, g3⟩ := onRecord_spec s.params.caverns[i].maxRate (s.cavernPoint i).quality (s.cavernPoint i).value
    x.channels[i.castAdd 2].energy s.move.caverns[i]
  simp only [h1, h2, h3]
  refine ⟨g1, g2, fun hq => ⟨(g3 hq).1, ?_, ?_⟩⟩
  · rw [(g3 hq).2]; exact (restrictedAfter_snoc _ _ _ _).1
  · rw [(g3 hq).2]; exact (restrictedAfter_snoc _ _ _ _).2

/-- A change carried through the blocks raises no DAY_CLOSED (R180). -/
theorem propagate_dayClosed (force : Bool) (s : State) :
    (s.propagate force).ports.com.causes.getLsbD 6 = s.ports.com.causes.getLsbD 6 := by
  have confirm (sel : Nat → Bool) (n : Nominations) (s : State) :
      (s.confirm sel n).ports.com.causes.getLsbD 6 = s.ports.com.causes.getLsbD 6 := by
    simp only [State.confirm, Ports.raiseCom, Ports.raiseOps]
    split <;> simp [PortState.raise, Cause.mask, Cause.bit]
  show ((s.deriveMovement.evalInhibit).capacity force).ports.com.causes.getLsbD 6 = _
  simp only [State.capacity]
  split
  · exact confirm _ _ _
  · rfl

/-- The caverns' part raises no DAY_CLOSED (R180). -/
theorem cavernsTake_dayClosed (x : IntervalRecord) (s : State) :
    (s.cavernsTake x).ports.com.causes.getLsbD 6 = s.ports.com.causes.getLsbD 6 := by
  unfold State.cavernsTake
  induction List.finRange 6 generalizing s with
  | nil => rfl
  | cons i l ih => exact (ih _).trans (propagate_dayClosed false _)

/-- All that the taking of a record can do (R64, R178). -/
theorem takeRecord_takenBy (order : Order) (who : Readers) (x : IntervalRecord) (s : State) :
    s.takenBy order who x (s.takeRecord order who x) := by
  obtain ⟨c, d, b⟩ := who
  have hd (s0 : State) : (s0.onlyIf d (·.dryerTakes x)).move = s0.move ∧ (s0.onlyIf d (·.dryerTakes x)).book = s0.book ∧
      (s0.onlyIf d (·.dryerTakes x)).nom = s0.nom ∧ s0.sameAround (s0.onlyIf d (·.dryerTakes x)) ∧
      (s0.onlyIf d (·.dryerTakes x)).dryer = if d then (s0.dryerTakes x).dryer else s0.dryer := by
    cases d
    · exact ⟨rfl, rfl, rfl, sameAround_refl _, rfl⟩
    · rw [onlyIf_true, dryerTakes_frame]; exact ⟨rfl, rfl, rfl, sameAround_refl _, rfl⟩
  have hb (s0 : State) : (s0.onlyIf b (·.bookTakes x)).move = s0.move ∧ (s0.onlyIf b (·.bookTakes x)).dryer = s0.dryer ∧
      (s0.onlyIf b (·.bookTakes x)).nom = s0.nom ∧ s0.sameAround (s0.onlyIf b (·.bookTakes x)) ∧
      (s0.onlyIf b (·.bookTakes x)).book = if b then (s0.book.take (s0.ratesFor x) x).1 else s0.book := by
    cases b <;> exact ⟨rfl, rfl, rfl, sameAround_refl _, rfl⟩
  have hc (s0 : State) : s0.sameAround (s0.onlyIf c (·.cavernsTake x)) ∧
      (s0.onlyIf c (·.cavernsTake x)).dryer = s0.dryer ∧ (s0.onlyIf c (·.cavernsTake x)).book = s0.book := by
    cases c
    · exact ⟨sameAround_refl _, rfl, rfl⟩
    · exact cavernsTake_frame x s0
  have hc6 (s0 : State) : (s0.onlyIf c (·.cavernsTake x)).ports.com.causes.getLsbD 6 = s0.ports.com.causes.getLsbD 6 := by
    cases c
    · rfl
    · rw [onlyIf_true]; exact cavernsTake_dayClosed x s0
  have hd6 (s0 : State) : (s0.onlyIf d (·.dryerTakes x)).ports = s0.ports := by
    cases d
    · rfl
    · rw [onlyIf_true, dryerTakes_frame]
  have hb6 (s0 : State) : (s0.onlyIf b (·.bookTakes x)).ports.com.causes.getLsbD 6 =
      (s0.ports.com.causes.getLsbD 6 || (b && (s0.book.take (s0.ratesFor x) x).2)) := by
    cases b
    · simp [State.onlyIf]
    · simp only [onlyIf_true, State.bookTakes, Ports.raiseCom, Bool.true_and]
      cases (s0.book.take (s0.ratesFor x) x).2 <;> simp [PortState.raise, Cause.mask, Cause.bit]
  have hq : b = true → ∀ rates, (if b then (s.book.take rates x).1 else s.book).lastSeq = x.seq := fun h rates => by
    rw [h]; exact take_lastSeq rates x s.book
  cases order with
  | movementFirst =>
    obtain ⟨c1, c2, c3⟩ := hc s
    obtain ⟨d1, d2, d3, -, d5⟩ := hd (s.onlyIf c (·.cavernsTake x))
    obtain ⟨b1, b2, b3, -, b5⟩ := hb ((s.onlyIf c (·.cavernsTake x)).onlyIf d (·.dryerTakes x))
    have hbook := b5.trans (by rw [d2, c3])
    refine ⟨fun i => ?_, ?_, ⟨?_, ?_⟩, fun h => ?_⟩
    · simp only [State.takeRecord, b1, d1]
      cases c with
      | false => exact ⟨fun _ => ⟨rfl, rfl, rfl⟩, fun h => (by cases h)⟩
      | true => exact ⟨fun h => (by cases h), fun _ => cavernsTake_taken x (sameAround_refl s) rfl i⟩
    · simp only [State.takeRecord, b2, d5, dryerTakes_dryer_congr x c1 c2, c2]
    · simp only [State.takeRecord, hbook]
      simp only [State.ratesFor, b3]
    · simp only [State.takeRecord, hb6, hd6, hc6, State.ratesFor, b3, d2, c3]
    · exact (congrArg Book.lastSeq hbook).trans (hq h _)
  | movementLast =>
    obtain ⟨b1, b2, b3, b4, b5⟩ := hb s
    obtain ⟨d1, d2, d3, d4, d5⟩ := hd (s.onlyIf b (·.bookTakes x))
    obtain ⟨c1, c2, c3⟩ := hc ((s.onlyIf b (·.bookTakes x)).onlyIf d (·.dryerTakes x))
    have hbook := c3.trans (d2.trans b5)
    refine ⟨fun i => ?_, ?_, ⟨hbook, ?_⟩, fun h => (congrArg Book.lastSeq hbook).trans (hq h _)⟩
    · simp only [State.takeRecord]
      cases c with
      | false => exact ⟨fun _ => by simp [d1, b1], fun h => (by cases h)⟩
      | true =>
        exact ⟨fun h => (by cases h), fun _ => cavernsTake_taken x (sameAround_trans b4 d4) (by rw [d1, b1]) i⟩
    · simp only [State.takeRecord, c2, d5, dryerTakes_dryer_congr x b4 b2, b2]
    · simp only [State.takeRecord, hc6, hd6, hb6]

/-! ### What stands untaken -/

/-- With nothing untaken, nothing is taken. -/
theorem takeUntaken_nil {s : State} (h : s.flow.untaken = []) : s.takeUntaken = s := by
  obtain ⟨_, _, _, _, f, _⟩ := s
  obtain ⟨_⟩ := f
  simp_all [State.takeUntaken]

/-- After the taking nothing stands untaken, and all around it is as it was. -/
theorem takeUntaken_sameAround (s : State) :
    s.takeUntaken.flow = { s.flow with untaken := [] } ∧
      ({ s with flow := { s.flow with untaken := [] } } : State).sameAround s.takeUntaken := by
  have key (l : List Untaken) (s : State) :
      s.sameAround (l.foldl (fun t u => t.takeRecord u.taking.order u.taking.later u.record) s) := by
    induction l generalizing s with
    | nil => exact sameAround_refl s
    | cons u l ih => exact sameAround_trans (takeRecord_sameAround _ _ _ s) (ih _)
  obtain ⟨h1, h2, h3, h4, h5, h6, h7, h8, h9, h10, h11, h12, h13⟩ := key s.flow.untaken s
  refine ⟨by simp only [State.takeUntaken, h5], h1, h2, h3, h4, ?_, h6, h7, h8, h9, h10, h11, h12, h13⟩
  simp only [State.takeUntaken, h5]

/-- A completion handed on to blocks that all take it at once leaves nothing untaken behind. -/
theorem handOn_atOnce (x : IntervalRecord) (s : State) :
    s.handOn .atOnce x =
      s.takeRecord .movementFirst { caverns := true, dryer := true, book := true } x := rfl

end Sys2Proof.Machine
end

