-- ==== Sys2Proof/Laws/Request.lean ====
section
/-! SUPPORT. The taking of a request (R185, R186), once for every kind: what `request` answers where the port takes it, where
a check refuses it, and where the port takes none. A proof about a request command cites these and never unfolds
`request`. -/

namespace Sys2Proof.Machine

/-- A port that can take a request is in WAITING or COLLECTING, and the SC6 runs. -/
theorem accepting_iff (p : Port) (s : State) :
    s.accepting p = true ↔
      s.running = true ∧ ((s.ports.get p).rx = .waiting ∨ (s.ports.get p).rx = .collecting) := by
  simp [State.accepting]

/-- A port that can take a request takes the one that comes. -/
theorem atPort_accepting {r : Request} {s : State} (kind : Byte)
    (take : State → State × Option (AnswerCode × List Byte)) (h : s.accepting r.port = true) :
    s.atPort r kind take = finishRequest r kind (take s) := by
  obtain ⟨hr, h | h⟩ := (accepting_iff r.port s).mp h <;> simp [State.atPort, hr, h]

/-- Past its checks, a request is what its owning block makes of it. -/
theorem request_takes {k : ReqKind} {r : Request} {s : State} {args : List Int} (act : Act) (h : s.takes k r args) :
    request k r act s = .next (finishRequest r (kindByte k) (act args s)).driveOutputs := by
  obtain ⟨ha, hm, hp⟩ := h
  simp [request, atPort_accepting _ _ ha, checked, hm, hp]

/-- An answer with a code and content, sent at the port of the request. -/
theorem request_answers {k : ReqKind} {r : Request} {s t : State} {args : List Int} {act : Act} {c : AnswerCode}
    {content : List Byte} (h : s.takes k r args) (ha : act args s = (t, some (c, content))) :
    request k r act s = .next (answered r k c content t) := by
  rw [request_takes act h, ha]; rfl

/-- A refusal without effect. -/
theorem request_refuses {k : ReqKind} {r : Request} {s : State} {args : List Int} {act : Act} {c : AnswerCode}
    (h : s.takes k r args) (ha : act args s = refuse c s) :
    request k r act s = .next (answered r k c [] s) := request_answers h ha

/-- An effect answered OK. -/
theorem request_accepts {k : ReqKind} {r : Request} {s t : State} {args : List Int} {act : Act}
    {content : State → List Byte} (h : s.takes k r args) (ha : act args s = accept t content) :
    request k r act s = .next (answered r k .ok (content t) t) := request_answers h ha

/-- An answer withheld: the port goes to HELD (R81). -/
theorem request_withholds {k : ReqKind} {r : Request} {s t : State} {args : List Int} {act : Act}
    (h : s.takes k r args) (ha : act args s = (t, none)) :
    request k r act s =
      .next (t.onPort r.port (·.withhold { tag := r.tag, kind := kindByte k, ready := none })).driveOutputs := by
  rw [request_takes act h, ha]; rfl

/-- A kind that the port may not issue is refused with REFUSED_ACCESS (R186). -/
theorem request_access {k : ReqKind} {r : Request} {s : State} (act : Act) (h : s.accepting r.port = true)
    (hm : mayIssue r.port k = false) : request k r act s = .next (answered r k .refusedAccess [] s) := by
  simp [request, atPort_accepting _ _ h, checked, hm, refuse, finishRequest, answered, answeredAs]

/-- A payload without the arguments of its kind is refused with REFUSED_RANGE (R186). -/
theorem request_length {k : ReqKind} {r : Request} {s : State} (act : Act) (h : s.accepting r.port = true)
    (hm : mayIssue r.port k = true) (hp : arguments k r.payload = none) :
    request k r act s = .next (answered r k .refusedRange [] s) := by
  simp [request, atPort_accepting _ _ h, checked, hm, hp, refuse, finishRequest, answered, answeredAs]

/-- No request is taken during a reset (R207). -/
theorem request_inReset {k : ReqKind} {r : Request} {s : State} (act : Act) (h : s.running = false) :
    request k r act s = .next s.driveOutputs := by
  simp [request, State.atPort, h]

/-- A port that sends discards what arrives (R185). -/
theorem request_sending {k : ReqKind} {r : Request} {s : State} (act : Act)
    (hs : (s.ports.get r.port).rx = .sending) : request k r act s = .next s.driveOutputs := by
  by_cases h : s.running = true <;> simp [request, State.atPort, h, hs]

/-- A port in HELD discards the frame, and sends its held answer where it is ready (R81, R188). -/
theorem request_held {k : ReqKind} {r : Request} {s : State} (act : Act) (h : s.running = true)
    (hs : (s.ports.get r.port).rx = .held) :
    request k r act s = .next (s.onPort r.port (·.heldFrameEnds)).driveOutputs := by
  simp [request, State.atPort, h, hs]

/-- What an answer leaves at the port that sends it. -/
theorem answered_answers (r : Request) (k : ReqKind) (c : AnswerCode) (content : List Byte) (t : State) :
    (answered r k c content t).answers r k c content := by
  simp [State.answers, answered, answeredAs, PortState.send]

/-- What a port holds while a frame ends in HELD, with the answer not ready and with it ready. -/
theorem heldFrameEnds_waits {p : PortState} {w : Withheld} (h : p.held = some w) (hr : w.ready = none) :
    p.heldFrameEnds = { p with frame := none } := by
  obtain ⟨tag, kind, ready⟩ := w
  cases hr; simp [PortState.heldFrameEnds, h]

theorem heldFrameEnds_sends {p : PortState} {w : Withheld} {a : Answer} (h : p.held = some w) (hr : w.ready = some a) :
    p.heldFrameEnds = { p with rx := .sending, frame := none, sending := some a, held := none } := by
  obtain ⟨tag, kind, ready⟩ := w
  cases hr; simp [PortState.heldFrameEnds, h, PortState.send]

end Sys2Proof.Machine
end

