-- ==== Sys2Proof/Laws/Reset.lean ====
section
/-! SUPPORT. The shared operations of a reset, once each: what `beginReset` and `startUp` set and keep (R207, R208, Table
11-3). -/

namespace Sys2Proof.Machine

/-- Every volatile state at its reset value. -/
theorem resetVolatile_atResetValues (p : OpParams) (s : State) (h : s.power.restart = .none) :
    State.atResetValues p (s.resetVolatile p) := by
  refine ⟨rfl, rfl, rfl, rfl, rfl, fun c => ?_, rfl, rfl, rfl, rfl, fun i => ?_, rfl, rfl, rfl, fun i => ?_, fun k => ?_, rfl,
    fun c => ?_, fun k => ?_, rfl, rfl, rfl, rfl, rfl, rfl, rfl, rfl, fun i => ?_, h⟩
  · simp [State.resetVolatile, Flow.reset, PulseChannel.atReset]
  · simp [State.resetVolatile, Movement.reset, Cavern.reset]
  · simp [State.resetVolatile, Duty.reset, CompUnit.reset]
  · simp [State.resetVolatile, Dryer.reset, Train.reset]
  · simp [State.resetVolatile, Protection.reset, ChannelState.atReset]
  · simp [State.resetVolatile, Protection.reset, TripRecord.clear]
  · simp [State.resetVolatile]

/-- The nonvolatile state kept, HEATING towers made LOADED. -/
theorem resetVolatile_kept (p : OpParams) (s : State) : s.keptThrough (s.resetVolatile p) := by
  refine ⟨rfl, rfl, rfl, rfl, rfl, rfl, rfl, rfl, fun i => ?_, fun i => ?_, fun k i => ?_⟩
  · simp [State.resetVolatile, Movement.reset, Cavern.reset]
  · simp [State.resetVolatile, Duty.reset, CompUnit.reset]
  · simp [State.resetVolatile, Dryer.reset, Train.reset, Tower.reset]

/-- What the beginning of a reset does (R207). -/
theorem beginReset_spec (k : ResetKind) (s : State) :
    let t := s.beginReset k
    s.keptThrough t ∧ t.atResetValues s.params ∧ t.params = s.params ∧ t.metro = s.metro ∧ t.store = s.store ∧
      t.power.phase = .inReset ∧ t.power.lastReset = k ∧ t.pending = s.pending ∧ t.time = s.time.reset ∧
      t.power.supply = s.power.supply ∧ t.power.resetInput = s.power.resetInput := by
  refine ⟨resetVolatile_kept s.params s, ?_, rfl, rfl, rfl, rfl, rfl, rfl, rfl, rfl, rfl⟩
  exact resetVolatile_atResetValues s.params { s with power := { s.power with restart := .none } } rfl

/-- A second reset of what a reset has kept. -/
theorem kept_of_kept {s a : State} (p : OpParams) (h : s.keptThrough a) (b : State) (hb : b = a.resetVolatile p) :
    s.keptThrough b := by
  obtain ⟨h1, h2, h3, h4, h5, h6, h7, h8, h9, h10, h11⟩ := h
  obtain ⟨g1, g2, g3, g4, g5, g6, g7, g8, g9, g10, g11⟩ := resetVolatile_kept p a
  subst hb
  refine ⟨g1.trans h1, g2.trans h2, ?_, g4.trans h4, g5.trans h5, g6.trans h6, g7.trans h7, g8.trans h8,
    fun i => (g9 i).trans (h9 i), fun i => ⟨(g10 i).1.trans (h10 i).1, (g10 i).2.trans (h10 i).2⟩, fun k i => ?_⟩
  · rw [g3, h3]
  · have twice : ∀ w v : Tower, v = { w with state := if w.state = .heating then .loaded else w.state, timer := none } →
        ({ v with state := if v.state = .heating then .loaded else v.state, timer := none } : Tower) =
          { w with state := if w.state = .heating then .loaded else w.state, timer := none } := by
      rintro ⟨st, a, b, c, d⟩ v rfl
      cases st <;> rfl
    exact (g11 k i).trans (twice _ _ (h11 k i))

/-- What the image checks find (R202, R206, R208). -/
theorem checkImages_params (s : State) :
    s.checkImages.params = (checkOpImage s.store.opImage).getD .default ∧
      s.checkImages.metro = (checkMetImage s.store.metImage).getD .recovery ∧
      s.checkImages.store.opValid = (checkOpImage s.store.opImage).isSome ∧
      s.checkImages.store.metImage =
        (if (checkMetImage s.store.metImage).isSome then s.store.metImage else some (metImage .recovery)) ∧
      s.checkImages.store.sealOpen = s.store.sealOpen := ⟨rfl, rfl, rfl, rfl, rfl⟩

/-- What the start of a start-up does (R208, steps 1 and 2). -/
theorem startUp_spec (s : State) :
    let t := s.startUp
    s.keptThrough t ∧ t.atResetValues t.params ∧ t.params = s.checkImages.params ∧ t.metro = s.checkImages.metro ∧
      t.store = s.checkImages.store ∧ t.power = { s.power with phase := .startingUp, restart := .none } ∧
      t.time = s.time.reset ∧ t.pending = s.pending := by
  refine ⟨?_, ?_, rfl, rfl, rfl, rfl, rfl, rfl⟩
  · exact resetVolatile_kept s.checkImages.params s
  · exact resetVolatile_atResetValues s.checkImages.params
      { s.checkImages with power := { s.power with restart := .none } } rfl

end Sys2Proof.Machine
end

