-- ==== Sys2Proof/Tests/Slice0.lean ====
section
/-! SUPPORT. Tests of the model on small states: the WellFormed smoke, the worked examples of the manual, a few commands each,
and, for every statement with hypotheses, a witness that they can be met (`witness_<statement>`). Expected values are the
manual's own figures, or are worked out by hand from the rule named. -/

namespace Sys2Proof.Tests

open Sys2Proof.Machine

set_option maxRecDepth 20000

/-! ### States and requests the tests are built from -/

/-- A running SC6 as its first start-up left it, its clock LOST. -/
def live : State := { State.reset with power := { State.reset.power with phase := .running } }

/-- The same with a VALID clock. -/
def clocked (v : Nat) : State :=
  { live with time := { live.time with clock := v, lost := false, openStart := v }, nom := { live.nom with
      current := v / 3600, firm := v / 3600 + 2, summaries := blankWindow (v / 3600) } }

/-- A running SC6 with one command waiting. -/
def queued (c : Instr) : State := { live with pending := [c] }

/-- A request with tag 1. -/
def ask (p : Port) (k : ReqKind) (length : Nat) (values : List Int) : Request :=
  { port := p, tag := 1#8, payload := payloadOf k length values }

/-- A request with tag 1 and these payload bytes. -/
def raw (p : Port) (bytes : List Byte) : Request := { port := p, tag := 1#8, payload := bytes }

/-- The state that a command leaves. -/
def after (c : Instr) (s : State) : State :=
  match exec c s with
  | .next t => t
  | .fault _ | .refused _ => s

/-- A port sending an answer. -/
def sending (p : Port) (s : State) : State := s.onPort p (·.send { tag := 1#8, kind := 1#8, code := .ok, content := [] })

/-- A port in HELD. -/
def holding (p : Port) (a : Option Answer) (s : State) : State :=
  s.onPort p (·.withhold { tag := 1#8, kind := 0x10#8, ready := a })

/-- A port collecting a frame. -/
def collecting (p : Port) (s : State) : State := s.onPort p fun x => { x with rx := .collecting, frame := some [0xC5#8] }

/-- A state with other parameters in force. -/
def withParams (f : OpParams → OpParams) (s : State) : State := { s with params := f s.params }

/-- A state with unit 1 in one of its states. -/
def unitIn (st : UnitState) (feedback : Bool) (s : State) : State :=
  { s with duty := { s.duty with units := s.duty.units.set 1 { s.duty.units[1] with state := st, feedback := feedback } } }

/-- The code that a port's answer carries. -/
def code (p : Port) (s : State) : Option AnswerCode := (s.ports.get p).sending.map (·.code)

/-! ### WellFormed: what each check refuses -/

theorem test_wf_payload : (Instr.readStatus (raw .ops (List.replicate 241 0#8))).wf = false := by decide
theorem test_wf_payload_longest : (Instr.readStatus (raw .ops (List.replicate 240 0#8))).wf = true := by decide
theorem test_wf_setClock : (Instr.setClock (raw .ops (List.replicate 241 0#8)) .atOnce).wf = false := by decide
theorem test_wf_resetTrip_advisory : (Instr.resetTrip (raw .ops [13#8])).wf = false := by decide
theorem test_wf_resetTrip_payload : (Instr.resetTrip (raw .ops (List.replicate 241 0#8))).wf = false := by decide
theorem test_wf_kind_defined : (Instr.undefinedRequestKind (raw .ops []) 0x01#8).wf = false := by decide
theorem test_wf_kind_payload : (Instr.undefinedRequestKind (raw .ops (List.replicate 241 0#8)) 0#8).wf = false := by
  decide
theorem test_wf_kind : (Instr.undefinedRequestKind (raw .ops []) 0x26#8).wf = true := by decide
theorem test_wf_length_low : (Instr.frameLengthInvalid .ops 2#8).wf = false ∧ (Instr.frameLengthInvalid .ops 1#8).wf = true := by
  decide
theorem test_wf_length_high :
    (Instr.frameLengthInvalid .ops 242#8).wf = false ∧ (Instr.frameLengthInvalid .ops 243#8).wf = true := by decide

/-- A read reply from unit 1, device 0, register 0. -/
def reply (regs : List Reg16) : LinkFrame :=
  { intact := true, tag := 1#8, unit := 1, kind := .read, device := 0, first := 0, count := 1, reply := .data regs,
    lines := Vector.replicate 4 true }

theorem test_wf_frame : (Instr.linkFrameReceived (reply [5#16])).wf = true := by decide
theorem test_wf_frame_unit : (Instr.linkFrameReceived { reply [5#16] with unit := 0 }).wf = false ∧
    (Instr.linkFrameReceived { reply [5#16] with unit := 7 }).wf = false := by decide
theorem test_wf_frame_device : (Instr.linkFrameReceived { reply [5#16] with device := 8 }).wf = false := by decide
theorem test_wf_frame_first : (Instr.linkFrameReceived { reply [5#16] with first := 32, count := 0 }).wf = false := by decide
theorem test_wf_frame_count : (Instr.linkFrameReceived { reply [5#16] with count := 8 }).wf = false := by decide
theorem test_wf_frame_span : (Instr.linkFrameReceived { reply [5#16] with first := 31, count := 2 }).wf = false := by decide
theorem test_wf_frame_registers : (Instr.linkFrameReceived (reply (List.replicate 8 0#16))).wf = false := by decide

/-! ### Worked figures of the manual -/

/-- R183: the CRC-16 of the characters 123456789 is 29B1h. -/
theorem test_crc16 : crc16 [0x31#8, 0x32#8, 0x33#8, 0x34#8, 0x35#8, 0x36#8, 0x37#8, 0x38#8, 0x39#8] = 0x29B1#16 := by
  decide

/-- Section 2.8: 44,500 and 44,620 of 65,535 on the scale 0 to 25,000,000 Pa. -/
theorem test_scale : scale 0 25000000 44500 = 16975661 ∧ scale 0 25000000 44620 = 17021438 := by decide

/-- Section 2.8: point 20's configuration. -/
def point20 : PointConfig :=
  { (PointConfig.default 20) with
      enabled := true, source := .remote 3 1 6, low := 0, high := 25000000, reduction := .mean, avg := 3,
      skips := 1, alarmHigh := 17000000, hysteresis := 200000, heldLimit := 10, failedLimit := 60 }

/-- Section 2.8: the round of three samples, one failed, publishes 16,998,549 with HIGH clear and sits out three passes. -/
theorem test_round :
    let p : PointState := { PointState.atReset with value := 16950000, quality := .good }
    let x := (((p.sample point20 (some 16975661)).1.sample point20 none).1.sample point20 (some 17021438))
    x.2 = true ∧ x.1.value = 16998549 ∧ x.1.alarmHigh = false ∧ x.1.skip = 3 ∧ x.1.age = 0 ∧ x.1.pos = 0 := by decide

/-- Section 3.4: the Z table. -/
def zTable : Vector (Int × Int) 8 :=
  #v[(2000000, 985000), (5000000, 962000), (8000000, 938000), (10000000, 925000), (12000000, 912000),
    (12318000, 908999), (16000000, 897000), (20000000, 893000)]

/-- Section 3.4: Zr is 910,500 at 12,159,000 Pa. -/
theorem test_ratio : interpolate zTable.toList 12159000 = 910500 := by decide

/-- Section 3.4: the metrology in force. -/
def metering : Metrology :=
  { Metrology.recovery with
      valid := true
      params := { MetParams.default with
        z := zTable
        channels := MetParams.default.channels.set 2
          { kp := 95250, pPoint := 26, tPoint := 34, pFallback := 10000000, tFallback := 28815 } } }

/-- Section 3.4: the pressure point of channel 2 at a quality. -/
def meterPoints (q : Quality) : Vector PointState 48 :=
  ((Vector.replicate 48 PointState.atReset).set 26 { PointState.atReset with value := 12159000, quality := q }).set 34
    { PointState.atReset with value := 30000, quality := .good }

/-- Section 3.4: channel 2 at the close. -/
def meterChannel : PulseChannel :=
  { a := false, b := false, pos := 0, fwd := 12052, rev := 0, nA := 12053, nB := 12052, volFwd := 31000, volRev := 0,
    enFwd := 1200, enRev := 0 }

/-- Section 3.4: the whole computation of channel 2, its figures and its residues. -/
theorem test_worked_computation :
    let x := closeChannel metering 39600 .inject (meterPoints .good) 2 meterChannel
    x.1 = { fwd := 12052, rev := 0, volFwd := 15183622, volRev := 0, energy := 167019842, flags := 0 } ∧
      x.2.volFwd = 35500 ∧ x.2.enFwd = 1200 ∧ x.2.volRev = 0 ∧ x.2.enRev = 0 := by decide

/-- Section 3.4: with the pressure HELD the figures are the same and P_HELD is set. -/
theorem test_worked_computation_held :
    (closeChannel metering 39600 .inject (meterPoints .held) 2 meterChannel).1 =
      { fwd := 12052, rev := 0, volFwd := 15183622, volRev := 0, energy := 167019842, flags := 32#11 } := by decide

/-- Section 3.4: the rescale of 35,500 from 95,250 to 95,300. -/
theorem test_rescale : (({ meterChannel with volFwd := 35500 } : PulseChannel).rescale 95250 95300).volFwd = 35518 := by
  decide

/-- Section 9.6: the four shippers before the record. -/
def bookSlots : Vector Slot 33 :=
  let sl (space : Nat) (inventory : Int) : Slot :=
    { Slot.first 1 with state := .active, space := space, inventory := inventory }
  (((((Vector.ofFn Slot.first).set 0 { Slot.first 0 with inventory := -2400 }).set 1 (sl 1000000000 200000000)).set 2
    (sl 500000000 80000000)).set 3 (sl 300000000 50000000)).set 4 (sl 400000000 398500000)

/-- Section 9.6: the confirmed rates. -/
def bookRates : Vector Int 33 :=
  ((((Vector.replicate 33 (0 : Int)).set 1 360000000).set 2 180000000).set 3 (-60000000)).set 4 120000000

/-- Section 9.6: the record. -/
def bookRecord : IntervalRecord :=
  { seq := 1, kind := .normal, endTime := 1699999980, length := 60, mode := .inject, lost := false,
    channels := Vector.replicate 8 { fwd := 0, rev := 0, volFwd := 0, volRev := 0, energy := 0, flags := 0 },
    eNet := 9000105, eFuel := 45000, eRegen := 12000, withdrawal := 0 }

/-- Section 9.6, Table 9-4: the allocations and the day cut. -/
theorem test_allocation :
    let a := recordAllocations bookSlots bookRates bookRecord
    a[0].amount = 0 ∧ a[1].amount = 5666737 ∧ a[2].amount = 2833368 ∧ a[3].amount = -1000000 ∧ a[4].amount = 1500000 ∧
      a[4].cut = 318201 ∧ a[1].cut = 0 := by decide

/-- Section 9.6: fuel and drying loss. -/
theorem test_allocation_losses :
    let s := allocateSlots bookRates bookRecord bookSlots
    s[1].fuel = 25500 ∧ s[2].fuel = 12750 ∧ s[4].fuel = 6750 ∧ s[3].drying = 12000 ∧ s[0].fuel = 0 ∧
      s[4].inventory = 400000000 := by decide

/-- Section 9.6: with a room of 2,800,000 in S2, 33,368 passes to slot 0. -/
theorem test_allocation_overflow :
    (recordAllocations (bookSlots.set 2 { bookSlots[2] with space := 82800000 }) bookRates bookRecord)[0].amount = 33368 := by
  decide

/-- Section 8.5, note: the ratchet factor at a fill of 100,000 and the clamped rate it leaves. -/
theorem test_ratchet :
    let r : Ratchet := #v[(0, 400000), (200000, 1000000), (500000, 1000000), (1000000, 1000000)]
    let sl : Slot := { Slot.first 1 with state := .active, space := 1000000, wdrRight := 300000000, inventory := 100000 }
    interpolate r.toList 100000 = 700000 ∧ clampRate Ratchet.default r sl (-250000000) = -210000000 := by decide

/-- Section 8.8: hour 10 with its three shippers, the site in CHANGEOVER. -/
def hourTen (wdrEff : Nat) : Nominations :=
  let e (slot : Nat) (r : Int) : NomEntry :=
    { slot := slot, hour := 10, requested := r, clamped := r, confirmed := r, state := .current }
  { live.nom with
      current := 10, wdrEff := wdrEff, summaries := blankWindow 10
      entries := [e 1 (-310000000), e 2 (-170000000), e 3 95000000] }

/-- Section 8.8: the slots of the three shippers, every right above every rate. -/
def hourEnv : NomEnv :=
  let sl : Slot := { Slot.first 1 with state := .active, space := 1000, injRight := 400000000, wdrRight := 400000000 }
  { lost := false, hour := 10, slots := (((Vector.ofFn Slot.first).set 1 sl).set 2 sl).set 3 sl, inj := Ratchet.default,
    wdr := Ratchet.default }

/-- Section 8.8 at 10:00: confirmations and N with no capacity. -/
theorem test_curtailed_at_ten :
    let n := (hourTen 0).recompute hourEnv fun _ => true
    n.entries.map (·.confirmed) = [-61354166, -33645833, 95000000] ∧ n.net = 1 ∧
      curtailmentSeen (hourTen 0).entries n.entries = true := by decide

/-- Section 8.8 at 10:40: confirmations and N with WDR_EFF 300,000,000. -/
theorem test_curtailed_at_ten_forty :
    let n := (hourTen 300000000).recompute hourEnv fun _ => true
    n.entries.map (·.confirmed) = [-255104166, -139895833, 95000000] ∧ n.net = -299999999 := by decide

/-- Section 8.8 at 10:15: nothing is curtailed at 600,000,000. -/
theorem test_restored_at_ten_fifteen :
    let n := (hourTen 600000000).recompute hourEnv fun _ => true
    n.entries.map (·.confirmed) = [-310000000, -170000000, 95000000] ∧ n.net = -385000000 := by decide

/-- Section 8.8: the SC6 under AUTO at a whole hour run onto and not yet followed, in a mode, with the entries of hour 10 in
a state. -/
def changeoverHour (v : Nat) (mode : SiteMode) (st : NomState) : State :=
  let s := clocked v
  { s with
    time := { s.time with hourRaised := true }
    params := { s.params with siteControl := .auto }
    move := { s.move with mode := mode }
    book := { s.book with slots := hourEnv.slots }
    nom := { s.nom with
      current := v / 3600 - 1, firm := v / 3600 + 1, injPot := 0, wdrPot := 600000000
      wdrEff := if mode = .withdraw then 600000000 else 0
      entries := (hourTen 0).entries.map fun e => { e with state := st }
      summaries := (blankWindow (v / 3600 - 1)).map fun b =>
        if b.hour = 10 then summarize 10 .potential 0 600000000 [-310000000, -170000000, 95000000] else b } }

/-- Section 8.8, Table 8-2: the hour event of 10:00 curtails in either order of the two controllers. -/
theorem test_hour_event_at_ten : ∀ order ∈ [Order.movementFirst, .movementLast],
    let t := after (.hourEvent order) (changeoverHour 36000 .inject .firm)
    t.nom.entries.map (·.confirmed) = [-61354166, -33645833, 95000000] ∧ t.nom.net = 1 ∧
      t.move.mode = .changeover ∧ t.ports.com.causes.getLsbD 5 = true := by decide

/-- Section 8.8, Table 8-2: the hour event of 11:00 copies the rates as they stood, in either order, and curtails nothing. -/
theorem test_hour_event_at_eleven : ∀ order ∈ [Order.movementFirst, .movementLast],
    let t := after (.hourEvent order) (changeoverHour 39600 .withdraw .current)
    (t.nom.previous.map fun p => (p.hour, (p.rates.toList).take 3)) = some (10, [-310000000, -170000000, 95000000]) ∧
      t.nom.net = 0 ∧ t.move.mode = .hold ∧ t.ports.com.causes.getLsbD 5 = false := by decide

/-- R158, Table 8-4: at a start-up four hours later, whichever controller acts first, the hours passed raise no CURTAILMENT
and start no unit. -/
theorem test_start_up_after_outage : ∀ order ∈ [Order.movementFirst, .movementLast],
    let s := changeoverHour 50400 .hold .current
    let e : NomEntry := { slot := 1, hour := 10, requested := 5, clamped := 5, confirmed := 5, state := .current }
    let t := after (.startUpComplete order) { s with
      power := { s.power with phase := .startingUp }
      nom := { s.nom with
        current := 10, firm := 13, wdrPot := 0, entries := [e, { e with hour := 11, state := .firm }]
        summaries := (blankWindow 10).map fun b => { b with direction := if b.hour = 14 then 1 else 0 } } }
    t.nom.net = 0 ∧ t.nom.entries = [] ∧ t.nom.current = 14 ∧ t.ports.com.causes.getLsbD 5 = false ∧
      ∀ i : Fin 4, t.duty.units[i].state = .stopped := by decide

/-- R199: a ratchet table is read as its four fills and then its four factors (Table 8-1). -/
theorem test_ratchet_bytes :
    Ratchet.bytes #v[(0, 256), (1, 257), (2, 258), (3, 259)] =
      [0#8, 0#8, 0#8, 0#8, 0#8, 0#8, 0#8, 1#8, 0#8, 0#8, 0#8, 2#8, 0#8, 0#8, 0#8, 3#8,
        0#8, 0#8, 1#8, 0#8, 0#8, 0#8, 1#8, 1#8, 0#8, 0#8, 1#8, 2#8, 0#8, 0#8, 1#8, 3#8] := by decide

/-! ### Commands, one step each -/

/-- R207: no request is taken before the completion of start-up. -/
theorem test_no_request_before_completion :
    (after (.setCv (ask .ops .setCv 4 [40000])) State.reset).params.cv = 39600 := by decide

/-- R208: start-up completes. -/
theorem test_start_up_completes :
    let t := after (.startUpComplete .movementFirst) State.reset
    t.running = true ∧ t.flow.log = [.gap 1 0 none true] ∧ t.ports.met.causes = 1024#11 ∧ t.out.attnMet = true := by decide

/-- R49: SET_CV takes 30,000 and refuses 29,999. -/
theorem test_set_cv :
    (after (.setCv (ask .ops .setCv 4 [30000])) live).params.cv = 30000 ∧
    code .ops (after (.setCv (ask .ops .setCv 4 [29999])) live) = some .refusedRange := by decide

/-- R186: COM may not set the site mode; a payload of the wrong length is out of range. -/
theorem test_access_and_length :
    code .com (after (.setSiteMode (ask .com .setSiteMode 1 [1])) live) = some .refusedAccess ∧
    code .ops (after (.setSiteMode (raw .ops [1#8, 1#8])) live) = some .refusedRange := by decide

/-- R4, R5, R6: HOLD to INJECT at once, INJECT to WITHDRAW by a changeover of T_change. -/
theorem test_set_site_mode :
    let t := after (.setSiteMode (ask .ops .setSiteMode 1 [1])) live
    let u := after (.setSiteMode (ask .ops .setSiteMode 1 [2])) (after (.answerSent .ops) t)
    t.move.mode = .inject ∧ u.move.mode = .changeover ∧ u.move.changeover = some { target := .withdraw, seconds := 900 } := by
  decide

/-- R7: the changeover ends in its target. -/
theorem test_changeover_expiry :
    let s : State := { live with move := { live.move with
      mode := .changeover, changeover := some { target := .withdraw, seconds := 0 } } }
    (after .changeoverExpiry s).move.mode = .withdraw ∧ (after .changeoverExpiry s).move.changeover = none := by decide

/-- R8: a changeover reversed before its expiry is taken has its timer afresh, and the expiry has no effect. -/
theorem test_reversed_changeover :
    let s : State := { live with move := { live.move with
      mode := .changeover, wanted := .withdraw, changeover := some { target := .withdraw, seconds := 0 } } }
    let t := after .changeoverExpiry (after (.setSiteMode (ask .ops .setSiteMode 1 [1])) s)
    t.move.mode = .changeover ∧ t.move.changeover = some { target := .inject, seconds := 900 } := by decide

/-- R42: the fourth forward quarter-step counts a cycle, and both rising edges count. -/
theorem test_pulses :
    let step (a b : Bool) (s : State) : State := after (.pulseInputChange 0 a b) s
    let t := step false false (step false true (step true true (step true false live)))
    t.flow.channels[0].fwd = 1 ∧ t.flow.channels[0].pos = 0 ∧ t.flow.channels[0].nA = 1 ∧ t.flow.channels[0].nB = 1 := by
  decide

/-- R57: at 4,294,967,295 the clock stays and becomes LOST. -/
theorem test_clock_stops :
    let t := after .clockTick (clocked 4294967295)
    t.time.clock = 4294967295 ∧ t.time.lost = true := by decide

/-- R62: a step of 301 s is refused, one of 300 s within the hour taken. -/
theorem test_set_clock :
    code .ops (after (.setClock (ask .ops .setClock 4 [7501]) .atOnce) (clocked 7200)) = some .refusedRange ∧
    (after (.setClock (ask .ops .setClock 4 [7500]) .atOnce) (clocked 7200)).time.clock = 7500 := by decide

/-- A running SC6 at a clock value, `n` ticks into its open interval. -/
def ticksIn (v n : Nat) : State :=
  { clocked v with time := { (clocked v).time with openStart := v - n, openTicks := n } }

/-- R58: no close at 37 s past the minute; one at the whole minute. -/
theorem test_close_only_when_due :
    (after (.intervalClose .atOnce) (ticksIn 7237 37)).flow.log = [] ∧
    ((after (.intervalClose .atOnce) (ticksIn 7260 60)).flow.log.map LogRecord.endTime) = [7260] := by decide

/-- R59: while the clock is LOST the interval closes at its 60th tick alone. -/
theorem test_close_while_lost :
    let s (n : Nat) : State := { live with time := { live.time with openTicks := n } }
    (after (.intervalClose .atOnce) (s 59)).flow.log = [] ∧
    (after (.intervalClose .atOnce) (s 60)).flow.log.length = 1 ∧
    (after (.intervalClose .atOnce) (s 61)).flow.log = [] := by decide

/-- R60, R62: an hour event acts at the whole hour run onto, also behind a step of the clock at that tick, once, and not at
a later tick. -/
theorem test_hour_event_only_when_due :
    let s := after .clockTick (ticksIn 7199 59)
    let hour (s : State) : Nat := (after (.hourEvent .movementFirst) s).nom.current
    let stepped := after (.setClock (ask .ops .setClock 4 [7230]) .atOnce) s
    hour s = 2 ∧ hour stepped = 2 ∧ (after (.hourEvent .movementFirst) s).time.hourRaised = false ∧
    hour (after .clockTick s) = 1 ∧
    hour (after (.intervalClose .atOnce) { s with time := { s.time with clock := 7260, hourRaised := false } }) = 1 := by
  decide

/-- R27: a period of 100 is taken as 250. -/
theorem test_survey_period :
    let t := after (.setSurveyPeriod (ask .ops .setSurveyPeriod 4 [100])) live
    t.params.surveyPeriod = 250 ∧ code .ops t = some .okClamped := by decide

/-- R88: a STOPPED unit alone takes the start slot at once. -/
theorem test_start_unit :
    let t := after (.startUnit (ask .ops .startUnit 2 [2, 5])) live
    t.duty.units[2].state = .starting ∧ t.duty.units[2].timer = some 180 ∧ t.out.run[2] = true := by decide

/-- The timer of a unit run out. -/
def timerOut (i : Fin 4) (s : State) : State :=
  { s with duty := { s.duty with units := s.duty.units.set i { s.duty.units[i] with timer := some 0 } } }

/-- R89, R134: no feedback at the end of T_start trips the unit under START_FAIL. -/
theorem test_start_fail :
    let t := after (.startTimeExpiry 2) (timerOut 2 (after (.startUnit (ask .ops .startUnit 2 [2, 5])) live))
    t.duty.units[2].state = .tripped ∧ (t.prot.record (.unit 2)).hasCause .startFail = true ∧ t.out.run[2] = false := by
  decide

/-- A running SC6 with one tower of train 0 as given. -/
def withTower (i : Fin 2) (w : Tower) (s : State) : State :=
  { s with dryer := { s.dryer with trains := s.dryer.trains.set 0 ((s.dryer.trains[0]).setTower i w) } }

/-- R118: a heated tower is unloaded and cools for T_tcool. -/
theorem test_heating_expiry :
    let w : Tower := { state := .heating, loading := 77, adsSeconds := 5, pending := false, timer := some 0 }
    let t := after (.heatingExpiry 1) (withTower 1 w live)
    (t.tower 1).state = .cooling ∧ (t.tower 1).loading = 0 ∧ (t.tower 1).timer = some 7200 := by decide

/-- R108, R119: a trip stops the timer of a COOLING tower, which goes on showing what is left, and no tick counts it. -/
theorem test_cooling_timer_stops :
    let w : Tower := { state := .cooling, loading := 0, adsSeconds := 5, pending := false, timer := some 100 }
    let t := (withTower 1 w live).reach (.train 0) (.channel 0)
    t.tower 1 = w ∧ (after .clockTick t).tower 1 = w := by decide

/-- R128, R132: a SITE channel without debounce shuts the site down when its pin becomes active. -/
def siteChannel : State :=
  withParams (fun p => { p with channels := p.channels.set 3 { (ChannelConfig.default 3) with
    enabled := true, pin := 3, pinHigh := true, debounce := 0, cls := .site } }) live

theorem test_site_trip :
    let t := after (.pinLevelChange 3 true) siteChannel
    t.move.mode = .shutdown ∧ t.prot.latched .site = true ∧ t.ports.ops.causes = 1#11 := by decide

/-- R137: the record cannot be cleared while the channel is active; R138: it can once the pin is LOW again. -/
theorem test_reset_trip :
    let t := after (.pinLevelChange 3 true) siteChannel
    code .ops (after (.resetTrip (ask .ops .resetTrip 1 [0])) t) = some .refusedState ∧
    (after (.resetTrip (ask .ops .resetTrip 1 [0])) (after (.pinLevelChange 3 false) t)).move.mode = .hold := by decide

/-- R70, R80: a remote read starts at once on an idle link and the port goes to HELD. -/
theorem test_remote_read :
    let t := after (.remoteRead (ask .met .remoteRead 4 [2, 1, 6, 4])) live
    t.ports.met.rx = .held ∧ (t.link.flight.map fun f => (f.entry.unit, f.entry.count)) = some (1, 4) := by decide

/-- R80: registers beyond 31 are out of range. -/
theorem test_remote_read_range :
    code .met (after (.remoteRead (ask .met .remoteRead 4 [2, 1, 28, 5])) live) = some .refusedRange := by decide

/-- R72, R81: the data of a valid reply, most significant byte first, in the held answer. -/
theorem test_reply_answers :
    let t := after (.remoteRead (ask .met .remoteRead 4 [1, 0, 0, 1])) live
    let u := after (.linkFrameReceived (reply [0x1234#16])) t
    u.ports.met.sending = some { tag := 1#8, kind := 0x10#8, code := .ok, content := [0x12#8, 0x34#8] } ∧
      u.link.health[0].health = .up ∧ u.ports.ops.causes = 4#11 := by decide

/-- R166: a transfer beyond the source's inventory is refused. -/
theorem test_transfer :
    let s : State := { live with book := { live.book with slots := bookSlots } }
    code .com (after (.transfer (ask .com .transfer 10 [3, 4, 50000001])) s) = some .refusedRange ∧
    (after (.transfer (ask .com .transfer 10 [3, 4, 1500000])) s).book.slots[4].inventory = 400000000 := by decide

/-- R203: a metrology write needs the seal OPEN. -/
theorem test_sealed :
    code .met (after (.setMetrology (ask .met .setMetrology 6 [0, 2, 95300])) live) = some .sealed ∧
    (after (.setMetrology (ask .met .setMetrology 6 [0, 2, 95300]))
      (after (.sealInputChange true) live)).metro.params.channels[2].kp = 95300 := by decide

/-- R57, R207: a power-on with the backup supply's clock. -/
theorem test_power_on :
    let t := after (.powerOn (some 1700000000#32)) (after .powerFail live)
    t.time.clock = 1700000000 ∧ t.time.lost = false ∧ t.power.phase = .startingUp := by decide

/-! ### Frames written out byte by byte from Table 10-1 (R183) -/

/-- SET_SITE_MODE INJECT with tag 07h: length 03h, tag 07h, kind 21h, payload 01h. -/
theorem test_frame_setSiteMode :
    decodeFrame .ops .atOnce
      ([0xC5#8, 0x03#8, 0x07#8, 0x21#8, 0x01#8] ++ be 2 (crc16 [0x03#8, 0x07#8, 0x21#8, 0x01#8]).toNat) =
      some (.setSiteMode { port := .ops, tag := 7#8, payload := [1#8] }) := by decide

/-- The same frame with a wrong CRC. -/
theorem test_frame_wrong_crc :
    decodeFrame .ops .atOnce [0xC5#8, 0x03#8, 0x07#8, 0x21#8, 0x01#8, 0#8, 0#8] = some (.frameCrcError .ops) := by
  decide

/-- RESET_TRIP ADVISORY: kind 3Dh, payload 0Dh. -/
theorem test_frame_advisory :
    decodeFrame .ops .atOnce
      ([0xC5#8, 0x03#8, 0x01#8, 0x3D#8, 0x0D#8] ++ be 2 (crc16 [0x03#8, 0x01#8, 0x3D#8, 0x0D#8]).toNat) =
      some (.resetTripAdvisory .ops 1#8) := by decide

/-! ### Witnesses: the hypotheses of every statement can be met -/

/-- A transaction of a kind and an origin at unit 1. -/
def entry (kind : LinkKind) (origin : Origin) : Entry :=
  { kind := kind, unit := 0, device := 0, first := 0, count := if kind = .status then 0 else 1, values := [],
    origin := origin }

/-- A running SC6 with a transaction in flight, its request sent. -/
def flying (e : Entry) (retry : Bool) : State :=
  { live with link := { live.link with
      started := 1, flight := some { entry := e, tag := 1#8, retry := retry, timeout := 100, timer := some 0 } } }

/-- A link whose queue is full behind a status poll. -/
def fullLink : State :=
  { flying (entry .status .surveyPoll) false with link := { (flying (entry .status .surveyPoll) false).link with
      queue := List.replicate 8 (entry .status .surveyPoll) } }

theorem live_linkInv : LinkInv live := by
  refine ⟨by decide, by decide, by decide, fun rp => (by cases rp <;> decide), fun u => ?_, by decide⟩
  simp [live, State.reset, Link.atReset]

theorem flying_linkInv (e : Entry) (retry : Bool) : LinkInv (flying e retry) := by
  refine ⟨by simp [flying, live, State.reset, Link.atReset], fun _ => rfl, fun h => (by simp [flying] at h), fun rp => ?_,
    fun u => ?_, ?_⟩
  · simp only [Link.all, flying, live, State.reset, Link.atReset, List.append_nil, List.countP_cons, List.countP_nil]
    split <;> omega
  · simp [flying, live, State.reset, Link.atReset]
  · simp [flying, live, State.reset, OpParams.default, LinkParams.default]

theorem fullLink_linkInv : LinkInv fullLink := by
  refine ⟨by decide, by decide, by decide, fun rp => (by cases rp <;> decide), fun u => ?_, by decide⟩
  simp [fullLink, flying, live, State.reset, Link.atReset]

theorem witness_StepTakesFrontCommand : (queued .clockTick).pending = .clockTick :: [] := rfl

theorem witness_StepKeepsSiteInv :
    ModeInv (queued .clockTick) ∧ CavernInv (queued .clockTick) ∧ ∃ t, step (queued .clockTick) = .next t := by
  unfold ModeInv CavernInv; exact ⟨by decide, by decide, _, rfl⟩

theorem live_trainInv : TrainInv live := by unfold TrainInv Train.sound; decide

theorem live_unitInv : UnitInv live := by unfold UnitInv; decide

/-- A running SC6 meets the premise about start-up. -/
theorem running_resetInv {s : State} (h : s.running = true) : ResetInv s := fun h0 => by rw [h] at h0; cases h0

/-- Right after reset, before start-up has completed, the volatile state is at its reset values. -/
theorem reset_resetInv : ResetInv State.reset := by
  intro _; unfold State.atResetValues; decide

/-- A start-up about to complete. -/
def completing : State := { State.reset with pending := [.startUpComplete .movementFirst] }

theorem witness_StepKeepsUnitInv :
    (ResetInv (queued .clockTick) ∧ UnitInv (queued .clockTick) ∧ ∃ t, step (queued .clockTick) = .next t) ∧
    (ResetInv completing ∧ UnitInv completing ∧ ∃ t, step completing = .next t) :=
  ⟨⟨running_resetInv rfl, live_unitInv, _, rfl⟩, reset_resetInv, by unfold UnitInv; decide, _, rfl⟩

theorem witness_StepKeepsTrainInv :
    (ResetInv (queued .clockTick) ∧ TrainInv (queued .clockTick) ∧ ∃ t, step (queued .clockTick) = .next t) ∧
    (ResetInv completing ∧ TrainInv completing ∧ ∃ t, step completing = .next t) :=
  ⟨⟨running_resetInv rfl, live_trainInv, _, rfl⟩, reset_resetInv, by unfold TrainInv Train.sound; decide, _, rfl⟩

theorem live_passInv : PassInv live := by unfold PassInv; decide

theorem witness_StepKeepsLinkInv :
    LinkInv (queued .clockTick) ∧ PassInv (queued .clockTick) ∧ ∃ t, step (queued .clockTick) = .next t :=
  ⟨live_linkInv, live_passInv, _, rfl⟩

theorem witness_StepKeepsResetInv :
    (ResetInv (queued .powerFail) ∧ ∃ t, step (queued .powerFail) = .next t ∧ t.running = false) ∧
    (ResetInv completing ∧ ∃ t, step completing = .next t ∧ t.running = true) :=
  ⟨⟨running_resetInv rfl, _, rfl, rfl⟩, reset_resetInv, _, rfl, rfl⟩

theorem witness_StepKeepsFlowInv :
    ResidueInv (queued .clockTick) ∧ LogInv (queued .clockTick) ∧ (queued .clockTick).flow.total < 4294967295 ∧
      ∃ t, step (queued .clockTick) = .next t := by
  refine ⟨⟨by unfold MetParams.kInRange; decide, fun img h => ?_, by decide⟩, by unfold LogInv seqsUpTo; decide, by decide,
    _, rfl⟩
  cases h; unfold MetParams.kInRange; decide

theorem witness_StepKeepsNominationInv : NomInv (queued .clockTick) ∧ ∃ t, step (queued .clockTick) = .next t := by
  refine ⟨⟨by unfold Ratchet.ok; decide, by unfold Ratchet.ok; decide, fun img h => (by cases h), by decide, by decide, ?_,
    by decide, by decide⟩, _, rfl⟩
  unfold entriesSound; decide

theorem witness_StepKeepsBookInv :
    SlotInv (queued .clockTick) ∧ DayInv (queued .clockTick) ∧ ∃ t, step (queued .clockTick) = .next t := by
  refine ⟨⟨by decide, fun i e h => ?_⟩, ⟨by decide, by decide, fun d h => (by cases h), by decide, fun u h => (by cases h)⟩, _, rfl⟩
  simp [queued, live, State.reset] at h

theorem witness_StepKeepsStoreInv :
    StoreInv (queued .clockTick) ∧ CalibrationInv (queued .clockTick) ∧ SizeInv (queued .clockTick) ∧
      ∃ t, step (queued .clockTick) = .next t := by
  refine ⟨⟨fun h => (by cases h), rfl, by decide⟩, ?_, ?_, _, rfl⟩
  · unfold CalibrationInv; decide
  · unfold SizeInv; decide

theorem live_portInv : PortInv live := by
  refine ⟨fun p => (by unfold PortState.sound; cases p <;> decide), by decide, fun rp => ?_⟩
  refine ⟨by cases rp <;> decide, ?_⟩
  constructor
  · intro h; cases rp <;> cases h
  · rintro ⟨w, h, -⟩; cases rp <;> cases h

theorem witness_StepKeepsPortInv :
    LinkInv (queued .clockTick) ∧ PortInv (queued .clockTick) ∧ ∃ t, step (queued .clockTick) = .next t :=
  ⟨live_linkInv, live_portInv, _, rfl⟩

theorem witness_OutputsActOnlyWhereAllowed :
    (OutputInv (queued .clockTick) ∧ CavernInv (queued .clockTick) ∧ TrainInv (queued .clockTick) ∧
      ResetInv (queued .clockTick) ∧ ∃ t, step (queued .clockTick) = .next t) ∧
    (OutputInv completing ∧ CavernInv completing ∧ TrainInv completing ∧ ResetInv completing ∧
      ∃ t, step completing = .next t) := by
  refine ⟨⟨?_, ?_, live_trainInv, running_resetInv rfl, _, rfl⟩, ?_, ?_, witness_StepKeepsTrainInv.2.2.1, reset_resetInv,
    _, rfl⟩
  · unfold OutputInv; decide
  · unfold CavernInv; decide
  · unfold OutputInv; decide
  · unfold CavernInv; decide

/-- Each output that the state calls for is driven (R15, R86, R108). -/
theorem witness_OutputsActOnlyWhereAllowed_active :
    let tower (st : TowerState) : Tower := { state := st, loading := 0, adsSeconds := 0, pending := false, timer := none }
    let train : Train := { state := .inService, dewHigh := false, towers := #v[tower .adsorbing, tower .heating] }
    let s : State := { live with
      move := { live.move with
        mode := .withdraw, caverns := live.move.caverns.set 2 { live.move.caverns[2] with state := .flowing } }
      duty := { live.duty with units := live.duty.units.set 1 { live.duty.units[1] with state := .running } }
      dryer := { live.dryer with trains := live.dryer.trains.set 1 train } }
    let t := after (.sealInputChange true) s
    (t.running = true ∧ t.prot.latched .site = false ∧ t.prot.latched (.cavern 2) = false ∧
      t.prot.latched (.unit 1) = false ∧ t.prot.latched (.train 1) = false) ∧
    t.out.permissive[2] = true ∧ t.out.run[1] = true ∧ t.out.towerSelect[2] = true ∧ t.out.heater[1] = true := by decide

theorem witness_AccessTable :
    (live.accepting .com = true ∧ Port.com ∉ ownPorts .setSiteMode) ∧
    (live.accepting .ops = true ∧ kindOfCode (0x00#8).toNat = none ∧ kindOfCode (0x63#8).toNat = none) := by decide

theorem witness_PayloadLengths :
    live.accepting .ops = true ∧ Port.ops ∈ ownPorts .setSiteMode ∧ allowedLength .setSiteMode 0 = false ∧
      allowedLength .setSiteMode 2 = false := by decide

theorem witness_PortThatTakesNoRequest :
    requestOf (.readStatus (raw .met [])) = some (kindByte .readStatus, raw .met []) ∧ State.reset.running = false ∧
    ((sending .met live).running = true ∧ ((sending .met live).ports.get .met).rx = .sending) ∧
    ∃ w, (holding .met none live).running = true ∧ ((holding .met none live).ports.get .met).rx = .held ∧
      ((holding .met none live).ports.get .met).held = some w :=
  ⟨by decide, by decide, by decide, _, by decide, by decide, rfl⟩

theorem witness_ReadsAnswerWithoutEffect :
    live.takes .readStatus (raw .com []) [] ∧ live.takes .readAccounts (raw .ops []) [] ∧
    live.takes .readNominations (raw .met []) [] ∧ live.takes .readMetrologyList (raw .met []) [] ∧
    live.takes .readParameters (raw .ops [0#8]) [0] ∧ live.takes .readParameters (raw .ops [1#8]) [1] ∧
    live.takes .readParameters (raw .ops [2#8]) [2] ∧
    (after (.startUpComplete .movementFirst) State.reset).takes .readIntervals (raw .com [0#8, 0#8, 0#8, 1#8]) [((1 : Nat) : Int)] ∧
    ((after (.startUpComplete .movementFirst) State.reset).flow.log.find? fun y => y.seq == 1) = some (.gap 1 0 none true) ∧
    live.takes .readIntervals (raw .com [0#8, 0#8, 0#8, 1#8]) [((1 : Nat) : Int)] ∧
    (live.flow.log.find? fun y => y.seq == 1) = none ∧
    live.takes .readDayRecords (raw .com [0x80#8, 0#8, 0#8, 0#8]) [-2147483648] ∧
    (List.replicate 30464 (0#8 : Byte)).length ≤ 30464 := by
  unfold State.takes
  refine ⟨by decide, by decide, by decide, by decide, by decide, by decide, by decide, by decide, by decide, by decide,
    by decide, by decide, Nat.le_of_eq List.length_replicate⟩

theorem witness_CauseRequests :
    live.takes .readPoints (raw .ops []) [] ∧ live.takes .readPoints (raw .met []) [] ∧
    live.takes .ackCauses (raw .ops [7#8, 255#8]) [((2047 : Nat) : Int)] ∧
    live.takes .ackCauses (raw .ops [8#8, 0#8]) [((2048 : Nat) : Int)] ∧
    live.takes .setMask (raw .met [7#8, 255#8]) [((2047 : Nat) : Int)] ∧
    live.takes .setMask (raw .met [8#8, 0#8]) [((2048 : Nat) : Int)] := by unfold State.takes; decide

theorem witness_ReceiverEvents :
    live.running = true ∧ (live.ports.get .ops).rx = .waiting ∧
    ((collecting .ops live).ports.get .ops).rx = .collecting ∧
    ((collecting .ops live).ports.get .ops).frame = some [0xC5#8] ∧
    ((holding .ops none live).ports.get .ops).rx = .held ∧ ((holding .ops none live).ports.get .ops).frame = none ∧
    ((holding .ops none live).ports.get .ops).held = some { tag := 1#8, kind := 0x10#8, ready := none } ∧
    ((sending .ops live).ports.get .ops).rx = .sending ∧
    ((1#8).toNat < 2 ∨ 242 < (1#8).toNat) ∧ ((243#8).toNat < 2 ∨ 242 < (243#8).toNat) := by decide

theorem witness_FramesRoundTrip :
    (Instr.setSiteMode (raw .ops [1#8])).wf = true ∧
    requestOf (.setSiteMode (raw .ops [1#8])) = some (0x21#8, raw .ops [1#8]) ∧
    [0#8, 0#8] ≠ (frameOf 1#8 0x21#8 [1#8]).drop 5 := by decide

/-- The access of a remote request of port MET. -/
def access (unit device first count : Int) : Request := ask .met .remoteRead 4 [unit, device, first, count]

/-- MET in EARLY mode with its result slot in a state. -/
def early (slot : ResultSlot) (s : State) : State :=
  { s with ports := s.ports.setRemote { s.ports.remote .met with mode := .early, slot := slot } .met }

theorem witness_RemoteAccess_range :
    LinkInv live ∧
    live.takes .remoteRead (access 0 0 0 1) [0, 0, 0, 1] ∧ live.takes .remoteRead (access 7 0 0 1) [7, 0, 0, 1] ∧
    live.takes .remoteRead (access 1 8 0 1) [1, 8, 0, 1] ∧ live.takes .remoteRead (access 1 0 32 1) [1, 0, 32, 1] ∧
    live.takes .remoteRead (access 1 0 0 0) [1, 0, 0, 0] ∧ live.takes .remoteRead (access 1 0 0 8) [1, 0, 0, 8] ∧
    live.takes .remoteRead (access 1 0 26 7) [1, 0, 26, 7] := by
  refine ⟨live_linkInv, ?_⟩
  unfold State.takes; decide

theorem witness_RemoteAccess :
    (live.takes .remoteRead (access 6 7 31 1) [6, 7, 31, 1] ∧ live.takes .remoteRead (access 1 0 25 7) [1, 0, 25, 7] ∧
      live.params.link.enabled[5] = true ∧ live.link.all.any (Entry.isOf .met) = false ∧ live.link.queue.length < 8 ∧
      (live.ports.remote .met).mode = .hold) ∧
    ((early .empty live).takes .remoteWrite (access 1 0 0 1) [1, 0, 0, 1] ∧
      ((early .empty live).ports.remote .met).mode = .early) ∧
    (fullLink.takes .remoteRead (access 1 0 0 1) [1, 0, 0, 1] ∧ 8 ≤ fullLink.link.queue.length ∧
      fullLink.link.all.any (Entry.isOf .met) = false) ∧
    ((flying (entry .read (.port .met .early)) false).takes .remoteRead (access 1 0 0 1) [1, 0, 0, 1] ∧
      (flying (entry .read (.port .met .early)) false).link.all.any (Entry.isOf .met) = true) ∧
    ((withParams (fun p => { p with link := { p.link with enabled := Vector.replicate 6 false } }) live).takes .remoteRead
        (access 1 0 0 1) [1, 0, 0, 1] ∧
      (withParams (fun p => { p with link := { p.link with enabled := Vector.replicate 6 false } }) live).params.link.enabled[0] =
        false) := by unfold State.takes; decide

theorem witness_RemoteAccess_links :
    LinkInv live ∧ LinkInv (early .empty live) ∧ LinkInv fullLink ∧ LinkInv (flying (entry .read (.port .met .early)) false) :=
  ⟨live_linkInv, live_linkInv, fullLink_linkInv, flying_linkInv _ _⟩

/-- A result held for FETCH_REMOTE. -/
def result : RemoteResult :=
  { isWrite := false, unit := 0, device := 0, first := 0, count := 1, outcome := .completed [5#16] }

theorem witness_RemotePortRequests :
    live.takes .writeStaging (raw .met [6#8, 1#8, 2#8]) (((6 : Nat) : Int) :: 258 :: []) ∧
    live.takes .writeStaging (raw .met [6#8, 1#8, 2#8, 3#8, 4#8]) (((6 : Nat) : Int) :: 258 :: [772]) ∧
    live.takes .readStaging (raw .met []) [] ∧ live.takes .setAnswerMode (raw .met [0#8]) [0] ∧
    live.takes .setAnswerMode (raw .met [1#8]) [1] ∧ live.takes .setAnswerMode (raw .met [2#8]) [2] ∧
    (live.takes .fetchRemote (raw .met []) [] ∧ (live.ports.remote .met).slot = .empty) ∧
    ((early .pending live).takes .fetchRemote (raw .met []) [] ∧ ((early .pending live).ports.remote .met).slot = .pending) ∧
    ((early (.ready result) live).takes .fetchRemote (raw .met []) [] ∧
      ((early (.ready result) live).ports.remote .met).slot = .ready result) ∧
    live.takes .ackCauses (raw .met [0#8, 128#8]) [((128 : Nat) : Int)] ∧ Nat.testBit 128 7 = true := by
  unfold State.takes; decide

/-- A link in its settle wait with an entry waiting. -/
def settling : State :=
  { live with link := { live.link with settle := some 0, queue := [entry .read (.surveyRead 0 0)] } }

theorem witness_LinkTimersAndRetry :
    ((after (.remoteRead (access 1 0 0 1)) live).running = true ∧
      ((after (.remoteRead (access 1 0 0 1)) live).link.flight.map (·.timer)) = some none) ∧
    ((flying (entry .status .surveyPoll) false).running = true ∧
      ((flying (entry .status .surveyPoll) false).link.flight.map fun f => (f.retry, f.timer, f.tag)) =
        some (false, some 0, 1#8)) ∧
    (settling.running = true ∧ settling.link.flight = none ∧ settling.link.settle = some 0) ∧
    live.link.settle ≠ some 0 ∧ live.link.flight = none ∧
    ((reply [5#16]).intact = true ∧ (({ reply [5#16] with tag := 2#8 } : LinkFrame).tag ≠ 1#8)) := by decide

theorem witness_TransactionEnds (o : Origin) :
    (flying (entry .read o) false).running = true ∧ LinkInv (flying (entry .read o) false) ∧
    LinkInv (flying (entry .read o) true) ∧
    (∃ f, (flying (entry .read o) false).link.flight = some f ∧ (reply [5#16]).intact = true ∧
      (reply [5#16]).tag = f.tag ∧ frameAnswers f.entry (reply [5#16]) = true ∧
      frameAnswers f.entry (reply [5#16, 6#16]) = false ∧ ({ reply [5#16] with intact := false } : LinkFrame).intact = false) ∧
    (∃ f, (flying (entry .read o) true).link.flight = some f ∧ f.retry = true ∧ f.timer = some 0) :=
  ⟨rfl, flying_linkInv _ _, flying_linkInv _ _, ⟨_, rfl, rfl, rfl, rfl, rfl, rfl⟩, ⟨_, rfl, rfl, rfl⟩⟩

/-- A HOLD access in flight, its port in HELD. -/
def heldAccess (retry : Bool) : State := holding .met none (flying (entry .read (.port .met .hold)) retry)

theorem witness_TransactionEnds_held :
    (∃ w, ((heldAccess true).ports.get .met).rx = .held ∧ ((heldAccess true).ports.get .met).held = some w ∧
      ((heldAccess true).ports.get .met).frame = none) ∧
    ((after .attemptTimeout (heldAccess true)).ports.met.sending.map fun a => (a.code, a.content)) =
      some (.linkFailed, [1#8]) ∧
    ((after (.linkFrameReceived (reply [])) (heldAccess false)).ports.met.sending.map fun a => (a.code, a.content)) =
      some (.linkFailed, [2#8]) ∧
    ((after (.linkFrameReceived { reply [] with reply := .rejected }) (heldAccess false)).ports.met.sending.map fun a =>
      (a.code, a.content)) = some (.linkFailed, [0#8]) :=
  ⟨⟨_, rfl, rfl, rfl⟩, by decide, by decide, by decide⟩

/-- A link in its settle wait with a transaction of each kind of originator waiting at unit 1. -/
def manyWaiting : State :=
  let s := holding .met none live
  { s with
    ports := s.ports.setRemote { s.ports.remote .ops with mode := .early, slot := .pending } .ops
    survey := { s.survey with inPass := true, outstanding := 2 }
    link := { s.link with settle := some 9, queue := [entry .status .surveyPoll, entry .read (.surveyRead 4 0),
      entry .read (.port .ops .early), entry .read (.port .met .hold)] } }

theorem manyWaiting_linkInv : LinkInv manyWaiting := by
  refine ⟨by decide, by decide, by decide, fun rp => (by cases rp <;> decide), fun u => ?_, by decide⟩
  simp [manyWaiting, holding, State.onPort, live, State.reset, Link.atReset]

/-- R30, R76, R81, R82: a SET_LINK that disables unit 1 cancels them all. -/
theorem witness_SetLink_cancels :
    let r := ask .ops .setLink 13 [20, 0, 1, 1, 1, 1, 1, 0]
    let t := after (.setLink r) manyWaiting
    (LinkInv manyWaiting ∧ PassInv manyWaiting) ∧
    manyWaiting.takes .setLink r [20, 0, 1, 1, 1, 1, 1, ((0 : Nat) : Int)] ∧
    (∃ w, (manyWaiting.ports.get .met).rx = .held ∧ (manyWaiting.ports.get .met).held = some w ∧
      (manyWaiting.ports.get .met).frame = none) ∧
    t.link.queue = [] ∧ t.survey.inPass = false ∧ t.survey.completed = 1 ∧
    (t.ports.met.sending.map fun a => (a.code, a.content)) = some (.linkFailed, [3#8]) ∧
    t.ports.opsRemote.slot = .ready { isWrite := false, unit := 0, device := 0, first := 0, count := 1,
                                      outcome := .failed .cancelled } := by
  refine ⟨⟨manyWaiting_linkInv, by unfold PassInv; decide⟩, by unfold State.takes; decide, ⟨_, rfl, rfl, rfl⟩, ?_⟩
  decide

theorem witness_SetLink :
    live.takes .setLink (ask .ops .setLink 13 [19, 1, 1, 1, 1, 1, 1, 0]) [19, 1, 1, 1, 1, 1, 1, ((0 : Nat) : Int)] ∧
    live.takes .setLink (ask .ops .setLink 13 [501, 1, 1, 1, 1, 1, 1, 0]) [501, 1, 1, 1, 1, 1, 1, ((0 : Nat) : Int)] ∧
    live.takes .setLink (ask .ops .setLink 13 [20, 1, 1, 1, 1, 1, 2, 0]) [20, 1, 1, 1, 1, 1, 2, ((0 : Nat) : Int)] ∧
    live.takes .setLink (ask .ops .setLink 13 [20, 0, 1, 1, 1, 1, 1, 15]) [20, 0, 1, 1, 1, 1, 1, ((15 : Nat) : Int)] ∧
    live.takes .setLink (ask .ops .setLink 13 [500, 1, 1, 1, 1, 1, 1, 15]) [500, 1, 1, 1, 1, 1, 1, ((15 : Nat) : Int)] ∧
    (live.params.link.enabled[0] = true ∧ live.link.health[0].health = .down) := by unfold State.takes; decide

/-- The arguments of a SET_POINT for point 5: LOCAL input 0, scaled 0 to `high`, average `a`. -/
def pointValues (enable high a : Int) : List Int :=
  [5, enable, 0, 0, 0, 0, 0, high, 3, a, 0, 100, 50, 10, 2, 10]

theorem witness_SetPoint :
    live.takes .setPoint (ask .ops .setPoint 37 (pointValues 1 1000 0)) (pointValues 1 1000 0) ∧
    pointArgs (pointValues 1 1000 0) = none ∧ pointArgs (pointValues 1 1000 17) = none ∧
    live.takes .setPoint (ask .ops .setPoint 37 (pointValues 1 1000 16)) (pointValues 1 1000 16) ∧
    (pointArgs (pointValues 1 1000 16)).isSome = true := by unfold State.takes; decide

/-- Table 2-1: the boundary values of each range, and the values beyond them. -/
theorem witness_SetPoint_ranges :
    let p (xs : List Int) : Bool := (pointArgs xs).isSome
    p [47, 1, 0, 15, 9, 9, 99, 0, 4, 16, 15, 50, 50, 2147483647, 600, 3600] = false ∧
    p [47, 1, 0, 15, 9, 9, 99, 0, 3, 16, 15, 50, 50, 2147483647, 600, 3600] = true ∧
    p [0, 0, 1, 99, 6, 7, 31, 0, 0, 1, 0, 7, 7, 0, 2, 10] = false ∧
    p [0, 0, 1, 6, 7, 31, 5, 5, 0, 1, 0, 7, 7, 0, 2, 10] = true ∧
    p [0, 0, 1, 0, 7, 31, 5, 5, 0, 1, 0, 7, 7, 0, 2, 10] = false ∧
    p [0, 0, 0, 16, 7, 31, 5, 5, 0, 1, 0, 7, 7, 0, 2, 10] = false ∧
    p [48, 0, 1, 6, 7, 31, 5, 5, 0, 1, 0, 7, 7, 0, 2, 10] = false ∧
    p [0, 0, 1, 6, 7, 31, 5, 5, 0, 1, 0, 6, 7, 0, 2, 10] = false ∧
    p [0, 0, 1, 6, 7, 31, 5, 5, 0, 1, 0, 7, 7, 0, 10, 10] = false := by decide

/-- Table 2-2, the last two lines: changed alarm limits judge the value as it stands, and a changed limit of age may move the
quality. -/
theorem witness_SetPoint_last_lines :
    let w : PointState := { PointState.atReset with value := 16900000, quality := .good, age := 7 }
    let low : PointConfig := { point20 with alarmHigh := 16800000 }
    let short : PointConfig := { point20 with heldLimit := 6 }
    (w.reconfigure point20 low).alarmHigh = true ∧ (w.reconfigure point20 short).quality = .held ∧
      ((PointState.atReset).reconfigure point20 low).alarmHigh = false ∧
      (let u : PointState := { PointState.atReset with alarmHigh := true }
       (u.reconfigure point20 low).alarmHigh = false ∧ (u.reconfigure point20 short).alarmHigh = true) := by decide

theorem witness_SetPoint_reconfigure :
    let a : PointConfig := point20
    let off : PointConfig := { point20 with enabled := false }
    let wide : PointConfig := { point20 with high := 30000000 }
    let slow : PointConfig := { point20 with skips := 2 }
    let alarm : PointConfig := { point20 with alarmHigh := 1 }
    (a.enabled = true ∧ off.enabled = false) ∧ a.high ≠ wide.high ∧
    (¬(off.enabled = true ∧ a.enabled = false) ∧ off.source = a.source ∧ off.low = a.low ∧ off.high = a.high ∧
      off.enabled = false ∧ a.enabled = true) ∧
    (¬(a.enabled = true ∧ slow.enabled = false) ∧ a.source = slow.source ∧ a.skips ≠ slow.skips) ∧
    (¬(a.enabled = false ∧ alarm.enabled = true) ∧ a.reduction = alarm.reduction ∧ a.avg = alarm.avg ∧
      a.skips = alarm.skips) := by decide

/-- A running SC6 with a point of each kind that a pass meets: 0 LOCAL, 1 sitting out, 2 and 3 REMOTE, unit 2 DISABLED. -/
def surveyed : State :=
  let cfg (src : PointSource) : PointConfig := { (PointConfig.default 0) with enabled := true, source := src }
  let s := withParams (fun p => { p with
    points := (((p.points.set 0 (cfg (.local 0))).set 1 (cfg (.local 1))).set 2 (cfg (.remote 0 0 0))).set 3
      (cfg (.remote 1 0 0))
    link := { p.link with enabled := p.link.enabled.set 1 false } }) live
  { s with survey := { s.survey with points := s.survey.points.set 1 { PointState.atReset with skip := 2 } } }

theorem surveyed_linkInv : LinkInv surveyed := by
  refine ⟨by decide, by decide, by decide, fun rp => (by cases rp <;> decide), fun u => ?_, ?_⟩
  · simp [surveyed, withParams, live, State.reset, Link.atReset]
  · intro u h; revert u; decide

/-- R28, R29: what a pass offers, in its order, and a READ that the full queue refuses. -/
theorem witness_PassDue_offers :
    (LinkInv surveyed ∧ LinkInv fullLink ∧ fullLink.survey.nextDue ≤ fullLink.time.elapsedMs ∧
      fullLink.survey.inPass = false) ∧
    surveyed.survey.nextDue ≤ surveyed.time.elapsedMs ∧ surveyed.passReads.map Prod.fst = [2] ∧
    (let t := after (.passDue (Vector.replicate 16 0#16)) surveyed
     (t.link.flight.map fun f => f.entry.origin) = some (.surveyRead 2 0) ∧
       t.link.queue.map (fun e => (e.kind, e.unit)) = [(.status, 2), (.status, 3), (.status, 4), (.status, 5)] ∧
       t.survey.outstanding = 5 ∧ t.survey.inPass = true ∧ t.survey.points[1].skip = 1) ∧
    (let s : State := { surveyed with link := fullLink.link }
     let t := after (.passDue (Vector.replicate 16 0#16)) s
     t.link = s.link ∧ t.survey.outstanding = 0 ∧ t.survey.inPass = false ∧ t.survey.completed = 1 ∧
       t.survey.points[2].pos = 0) := by
  refine ⟨⟨surveyed_linkInv, fullLink_linkInv, by decide, by decide⟩, by decide⟩

theorem witness_PassDue :
    (let s := after (.setSurveyPeriod (ask .ops .setSurveyPeriod 4 [250])) live
     s.running = true ∧ s.time.elapsedMs < s.survey.nextDue) ∧
    (let s : State := { live with survey := { live.survey with inPass := true, overrun := 65535, consecutive := 2 } }
     s.running = true ∧ s.survey.inPass = true ∧ s.survey.overrun ≤ 65535 ∧ s.survey.consecutive ≤ 65535) ∧
    surveyed.running = true ∧ surveyed.survey.inPass = false ∧ surveyed.params.points[4].enabled = false ∧
    (surveyed.params.points[1].enabled = true ∧ 0 < surveyed.survey.points[1].skip) ∧
    (surveyed.params.points[0].enabled = true ∧ surveyed.survey.points[0].skip = 0 ∧
      surveyed.params.points[0].source = .local 0) ∧
    (surveyed.params.points[2].source = .remote 0 0 0 ∧ surveyed.params.link.enabled[0] = true) ∧
    (surveyed.params.points[3].source = .remote 1 0 0 ∧ surveyed.params.link.enabled[1] = false) ∧
    surveyed.survey.nextDue ≤ surveyed.time.elapsedMs := by decide

theorem witness_ScalingAndInterpolation :
    (65535 : Nat) ≤ 65535 ∧
    (ascending (([(0, 5)] ++ (1, 7) :: (3, 2) :: ([] : List (Int × Int))).map Prod.fst) = true ∧ (1 : Int) ≤ 1 ∧ (1 : Int) < 3 ∧
      (1 : Int) ≤ 2 ∧ (2 : Int) < 3) ∧
    (ascending (((1, 7) :: ([(3, 2)] : List (Int × Int))).map Prod.fst) = true ∧ (0 : Int) < 1) ∧
    (ascending ((([(1, 7)] : List (Int × Int)) ++ [(3, 2)]).map Prod.fst) = true ∧ (3 : Int) ≤ 3) := by decide

theorem witness_RoundsReduce :
    PointState.atReset.pos = 0 ∧ PointState.atReset.okCount = 0 ∧ 1 ≤ point20.avg ∧
    [some (4 : Int)].length < point20.avg ∧
    (([none, none, none] : List (Option Int)).length = point20.avg ∧
      ([none, none, none] : List (Option Int)).filterMap id = []) ∧
    (([some 4, none, some 7] : List (Option Int)).length = point20.avg ∧
      ([some 4, none, some 7] : List (Option Int)).filterMap id = 4 :: [7]) := by decide

/-- R34, R37: the mean of 4 and 7, floored, is published with HIGH set above 4 and LOW cleared at 5. -/
theorem witness_RoundsReduce_flags :
    let c : PointConfig := { point20 with alarmHigh := 4, alarmLow := 3, hysteresis := 2 }
    let p : PointState := { PointState.atReset with alarmLow := true }
    let q := [some 4, none, some 7].foldl (fun w x => (w.sample c x).1) p
    p.pos = 0 ∧ p.okCount = 0 ∧ [some (4 : Int), none, some 7].length = c.avg ∧ q.value = 5 ∧ q.alarmHigh = true ∧
      q.alarmLow = false := by decide

/-- A running SC6 sixty seconds into an interval, with full rings of pressure entries at cavern 0. -/
def minuteIn (q : Quality) (ring : List Int) : State :=
  let s := clocked 7260
  { s with
    time := { s.time with openStart := 7200, openTicks := 60 }
    survey := { s.survey with points := s.survey.points.set 0 { PointState.atReset with value := 9000000, quality := q } }
    move := { s.move with caverns := s.move.caverns.set 0 { s.move.caverns[0] with ring := ring } } }

/-- All three blocks take a record later, or the book alone. -/
def allLater : Taking := { order := .movementLast, later := { caverns := true, dryer := true, book := true } }

/-- The book takes a record later. -/
def bookLater : Taking := { order := .movementFirst, later := { caverns := false, dryer := false, book := true } }

/-- A running SC6 under AUTO. -/
def underAuto (s : State) : State := withParams (fun p => { p with siteControl := .auto }) s

/-- R16, R17, R142: each cavern takes the record as its own event, so cavern 0 becoming RESTRICTED curtails the hour even
where cavern 1 recovers at the same record. -/
theorem test_caverns_take_in_turn :
    let s := minuteIn .good (List.replicate 60 8000000)
    let p : PointState := { PointState.atReset with value := 9500000, quality := .good }
    let c : CavernParams := { s.params.caverns[0] with enabled := true, pMax := 20000000, injRating := 100000000 }
    let s1 : State := { s with
      params := { s.params with caverns := (s.params.caverns.set 0 { c with point := 0 }).set 1 { c with point := 1 } }
      survey := { s.survey with points := (s.survey.points.set 0 p).set 1 p }
      link := { s.link with health := (s.link.health.set 0 ⟨.up, 0⟩).set 1 ⟨.up, 0⟩ }
      book := { s.book with slots := hourEnv.slots }
      move := { s.move with
        mode := .inject
        caverns := s.move.caverns.set 1 { s.move.caverns[1] with ring := List.replicate 60 9500000, restricted := true } }
      nom := { s.nom with entries := [{ slot := 1, hour := 2, requested := 150000000, clamped := 150000000
                                        confirmed := 150000000, state := .current }] } }
    let t := s1.propagate false
    let u := after (.intervalClose .atOnce) t
    t.ports.com.causes.getLsbD 5 = false ∧ (t.nom.entries.map (·.confirmed)) = [150000000] ∧
      u.ports.com.causes.getLsbD 5 = true ∧ (u.nom.entries.map (·.confirmed)) = [150000000] ∧
      (u.move.caverns[0].restricted, u.move.caverns[1].restricted) = (true, false) := by decide

theorem witness_ClockTick :
    (let s : State := { State.reset with power := { State.reset.power with supply := false, phase := .inReset } }
     s.running = false ∧ s.power.supply = false) ∧
    (State.reset.running = false ∧ State.reset.power.supply = true) ∧
    (live.running = true ∧ live.time.lost = true) ∧
    ((clocked 4294967294).running = true ∧ (clocked 4294967294).time.clock < 4294967295 ∧
      (clocked 4294967294).flow.untaken = []) ∧
    (after (.intervalClose allLater) (minuteIn .good [])).flow.untaken ≠ [] ∧
    ((clocked 4294967295).running = true ∧ (clocked 4294967295).time.lost = false ∧
      4294967295 ≤ (clocked 4294967295).time.clock) := by decide

/-- R36, R87, R89, R94, R118: what a tick does at units, towers and points where it trips nothing. -/
theorem witness_ClockTick_timers :
    let unit : CompUnit := { live.duty.units[1] with state := .cooldown, timer := some 5 }
    let inhibited : CompUnit := { live.duty.units[2] with inhibited := true, startLog := List.replicate 4 3600 }
    let tower : Tower := { state := .heating, loading := 0, adsSeconds := 5, pending := false, timer := some 9 }
    let point (age : Nat) : PointState := { PointState.atReset with value := 3, quality := .good, age := age }
    let base := withTower 1 tower (clocked 7199)
    let s : State := { base with
      duty := { base.duty with units := (base.duty.units.set 1 unit).set 2 inhibited }
      survey := { base.survey with points := base.survey.points.set 0 (point 10) } }
    let t := after .clockTick s
    (s.running = true ∧ s.flow.untaken = [] ∧ s.duty.units[1].state ≠ .stopped ∧ (∀ q ∈ s.duty.queue, q.unit ≠ 1) ∧
      (s.dryer.trains[0]).state.isHeld = false ∧ s.dryer.trains[0].towers[1].regenerating = true ∧
      t.prot.latched .site = s.prot.latched .site ∧ t.prot.latched (.unit 1) = s.prot.latched (.unit 1) ∧
      t.prot.latched (.train 0) = s.prot.latched (.train 0)) ∧
    s.params.points[0].heldLimit = 10 ∧ t.survey.points[0].quality = .held ∧ t.survey.points[0].age = 11 ∧
    t.duty.units[1].timer = some 4 ∧ t.duty.units[2].inhibited = false ∧
    t.dryer.trains[0].towers[1].timer = some 8 := by decide

/-- R57, R92, R119: a tick at which no quality changes, and one whose change of quality latches the site record. -/
theorem witness_ClockTick_latch :
    let low : PointConfig := { point20 with alarmHigh := 900 }
    let s := withParams (fun q => { q with
      points := q.points.set 5 low
      channels := q.channels.set 3 { (ChannelConfig.default 3) with
        enabled := true, form := .pointHigh, point := 5, debounce := 0, cls := .site } }) (unitIn .running true live)
    let old : State := { s with survey := { s.survey with points := s.survey.points.set 5 { PointState.atReset with
      value := 901, quality := .good, age := 10 } } }
    let t := after .clockTick old
    (t.prot.latched .site ≠ old.prot.latched .site ∧ t.duty.units[1].state = .tripped ∧
      (t.dryer.trains[0]).state.isHeld = true) ∧
    ∀ p : Fin 48, (after .clockTick s).survey.points[p].quality = s.survey.points[p].quality := by decide

theorem witness_SetClock :
    ((clocked 7200).takes .setClock (ask .ops .setClock 4 [7501]) [((7501 : Nat) : Int)] ∧ (clocked 7200).time.lost = false ∧
      300 < (((7501 : Nat) : Int) - (clocked 7200).time.clock).natAbs) ∧
    ((clocked 7200).takes .setClock (ask .ops .setClock 4 [7199]) [((7199 : Nat) : Int)] ∧
      7199 / 3600 ≠ (clocked 7200).time.clock / 3600) ∧
    (clocked 7200).takes .setClock (ask .ops .setClock 4 [7200]) [((7200 : Nat) : Int)] ∧
    ((clocked 7200).takes .setClock (ask .ops .setClock 4 [7500]) [((7500 : Nat) : Int)] ∧
      (((7500 : Nat) : Int) - (clocked 7200).time.clock).natAbs ≤ 300 ∧ 7500 / 3600 = (clocked 7200).time.clock / 3600) ∧
    (live.takes .setClock (ask .ops .setClock 4 [4294967295]) [((4294967295 : Nat) : Int)] ∧ live.time.lost = true ∧
      live.time.openTicks = 0) ∧
    (after .clockTick live).time.openTicks ≠ 0 ∧ allLater.later.book = true ∧ Taking.atOnce.later.book = false ∧
    (underAuto live).params.siteControl = .auto ∧ live.params.siteControl = .manual := by unfold State.takes; decide

/-- R156: a placement that confirms a rate anew, at a LOST clock whose rates are all 0. -/
theorem witness_SetClock_curtailment :
    let h := changeoverHour 36000 .hold .requested
    let s : State := { h with
      time := { h.time with lost := true, hourRaised := false }
      params := { h.params with siteControl := .manual }
      nom := { h.nom with entries := h.nom.entries.map fun e => { e with confirmed := 0 } } }
    let t := after (.setClock (ask .ops .setClock 4 [36000]) .atOnce) s
    (s.time.lost = true ∧ s.params.siteControl = .manual ∧ (∀ e ∈ s.nom.entries, e.confirmed = 0)) ∧
    (∃ x ∈ t.nom.entries, x.state ≠ .requested ∧ x.confirmed ≠ 0) ∧ t.ports.com.causes.getLsbD 5 = true := by decide

theorem witness_HourEvent :
    let due := after .clockTick (ticksIn 7199 59)
    let auto := changeoverHour 39600 .withdraw .current
    State.reset.running = false ∧ live.time.lost = true ∧ (clocked 7200).time.hourRaised = false ∧
    (due.running = true ∧ due.time.lost = false ∧ due.time.hourRaised = true ∧ due.params.siteControl = .manual) ∧
    (auto.running = true ∧ auto.time.lost = false ∧ auto.time.hourRaised = true ∧ auto.params.siteControl = .auto ∧
      auto.nom.current ≠ auto.time.clock / 3600 ∧ 1 ≤ auto.time.clock / 3600) ∧
    (let one := changeoverHour 3600 .inject .firm
     one.running = true ∧ one.time.lost = false ∧ one.time.hourRaised = true ∧ one.params.siteControl = .auto ∧
       one.nom.current ≠ one.time.clock / 3600 ∧ one.time.clock / 3600 = 1) ∧
    (let s := withParams (fun p => { p with siteControl := .manual }) (changeoverHour 36000 .inject .firm)
     let t := after (.hourEvent .movementFirst) s
     entriesSound s.nom ∧ s.params.siteControl = .manual ∧
       ∃ x ∈ t.nom.entries, x.state ≠ .requested ∧
         ∃ y ∈ s.nom.entries, y.slot = x.slot ∧ y.hour = x.hour ∧ y.confirmed ≠ x.confirmed) := by
  unfold entriesSound; decide

theorem witness_PulseDecoder :
    State.reset.running = false ∧ live.running = true ∧ -3 ≤ live.flow.channels[0].pos ∧ live.flow.channels[0].pos ≤ 3 ∧
    live.flow.channels[0].fwd < 4294967295 ∧ live.flow.channels[0].rev < 4294967295 ∧
    live.flow.channels[0].nA < 4294967295 ∧ live.flow.channels[0].nB < 4294967295 ∧
    nextLevels (live.flow.channels[0].a, live.flow.channels[0].b) = (true, false) ∧
    nextLevels (false, true) = (live.flow.channels[0].a, live.flow.channels[0].b) ∧
    (false = live.flow.channels[0].a ∧ false = live.flow.channels[0].b) ∧
    (true ≠ live.flow.channels[0].a ∧ true ≠ live.flow.channels[0].b) := by decide

theorem witness_IntervalClose :
    (live.running = true ∧ live.time.openTicks = 0) ∧ State.reset.running = false ∧
    ((ticksIn 7237 37).time.openTicks ≠ 0 ∧ (ticksIn 7237 37).time.lost = false ∧ (ticksIn 7237 37).time.clock % 60 ≠ 0) ∧
    ((minuteIn .good []).running = true ∧ (minuteIn .good []).time.openTicks ≠ 0 ∧ (minuteIn .good []).time.lost = false ∧
      (minuteIn .good []).time.clock % 60 = 0 ∧ (minuteIn .good []).flow.total < 4294967295) ∧
    (let s : State := { live with time := { live.time with openTicks := 60 } }
     s.running = true ∧ s.time.lost = true ∧ s.time.openTicks = 60) ∧
    (anyReader allLater.later = true ∧ anyReader bookLater.later = true ∧ anyReader Taking.atOnce.later = false ∧
      (otherReaders bookLater.later).caverns = true ∧ (otherReaders bookLater.later).book = false) ∧
    ((after (.intervalClose .atOnce) (minuteIn .good [])).flow.untaken = [] ∧
      ∃ u, (after (.intervalClose bookLater) (minuteIn .good [])).flow.untaken = [u]) ∧
    ((minuteIn .failed []).cavernPoint 0).quality = .failed ∧ ((minuteIn .good []).cavernPoint 0).quality = .good ∧
    (let ring := List.replicate 60 (8000000 : Int)
     let new := ring.drop (ring.length - 59) ++ [((minuteIn .held ring).cavernPoint 0).value]
     60 ≤ new.length ∧ new.head? = some 8000000) :=
  ⟨by decide, by decide, by decide, by decide, by decide, by decide, ⟨by decide, _, rfl⟩, by decide, by decide, by decide⟩

theorem witness_FlowComputation :
    ¬(Metrology.recovery.valid = true ∨ Metrology.recovery.calibrated.getLsbD 2 = true) ∧
    (metering.valid = true ∧ 1 ≤ metering.params.singleMin ∧ 0 < metering.params.channels[2].kp ∧ 0 < metering.params.pb ∧
      (∀ z : Fin 8, 0 < metering.params.z[z].2) ∧ ascending (metering.params.z.toList.map Prod.fst) = true) ∧
    (let c : PulseChannel := { meterChannel with nA := 10, nB := 0 }
     c.nB = 0 ∧ metering.params.singleMin ≤ c.nA) ∧
    (let c : PulseChannel := { meterChannel with nA := 0, nB := 10 }
     c.nA = 0 ∧ metering.params.singleMin ≤ c.nB) ∧
    ¬(meterChannel.nB = 0) ∧ ¬(meterChannel.nA = 0) := by decide

theorem witness_ConversionFold : 0 < 95250 ∧ 31000 < 95250 ∧ 1200 < 3600 := by decide

/-- A train drying with tower 0, its partner in a state. -/
def dryingTrain (partner : TowerState) (loading : Nat) : Train :=
  { state := .inService, dewHigh := false
    towers := #v[{ state := .adsorbing, loading := loading, adsSeconds := 0, pending := false, timer := none },
      { state := partner, loading := 0, adsSeconds := 0, pending := false, timer := none }] }

/-- A running SC6 in WITHDRAW with its first `n` trains drying. -/
def withdrawing (n : Nat) : State :=
  { live with
    move := { live.move with mode := .withdraw }
    dryer := { live.dryer with trains := Vector.ofFn fun k =>
      if k.val < n then dryingTrain .ready 0 else live.dryer.trains[k] } }

theorem witness_DryerLoading :
    TrainInv (withdrawing 2) ∧ TrainInv (withdrawing 1) ∧ TrainInv (withdrawing 0) ∧
    bookRecord.mode ≠ .withdraw ∧ ({ bookRecord with mode := .withdraw } : IntervalRecord).mode = .withdraw ∧
    ((withdrawing 1).dryer.trains[0].state.isDrying = true ∧ (withdrawing 1).dryer.trains[1].state.isDrying = false) ∧
    ((withdrawing 0).dryer.trains[0].state.isDrying = false ∧ (withdrawing 0).dryer.trains[1].state.isDrying = false) ∧
    (∀ k : Fin 8, 0 ≤ (TrainParams.default 0).water[k].2) ∧
    ((dryingTrain .ready 0).sound ∧ (dryingTrain .ready 0).state.isDrying = true ∧
      (dryingTrain .ready 0).towers[0].state = .adsorbing ∧ (dryingTrain .ready 0).towers[partner 0].state = .ready) ∧
    (dryingTrain .cooling 0).towers[partner 0].state ≠ .ready ∧
    (TrainParams.default 0).capacity * 1000000 ≤ (dryingTrain .ready 2000000000).towers[0].loading ∧
    ¬((TrainParams.default 0).capacity * 1000000 ≤ (dryingTrain .ready 1999999999).towers[0].loading ∨
      DryerParams.default.maxAds ≤ (dryingTrain .ready 1999999999).towers[0].adsSeconds ∨
      (dryingTrain .ready 1999999999).dewHigh = true) := by unfold TrainInv Train.sound; decide

/-- R118: the COOLING partner of a drying train counts down. -/
theorem witness_DryerLoading_timer :
    let t := (dryingTrain .cooling 0).setTower 1 { (dryingTrain .cooling 0).towers[1] with timer := some 9 }
    t.state.isHeld = false ∧ t.towers[1].regenerating = true ∧ (t.second (live.trainEnv 0)).towers[1].timer = some 8 := by
  decide

/-- A completed record of a withdrawal that a block takes later. -/
def withdrawn (who : Readers) : Untaken :=
  { record := { bookRecord with mode := .withdraw, withdrawal := 500 }
    taking := { order := .movementFirst, later := who } }

/-- R113: a mode change taken before the record leaves the trains in STANDBY, and its withdrawal goes untreated. -/
theorem test_withdrawal_taken_after_mode_change :
    let s := withdrawing 1
    let s : State := { s with flow := { s.flow with
      untaken := [withdrawn { caverns := false, dryer := true, book := false }] } }
    let t := after .clockTick (after (.setSiteMode (ask .ops .setSiteMode 1 [1])) s)
    t.move.mode = .changeover ∧ t.dryer.trains[0].state = .standby ∧ t.dryer.untreated = 500 ∧ t.flow.untaken = [] ∧
      (after .clockTick s).dryer.untreated = 0 := by decide

/-- R167: a record completed but not taken before a reset stands in the log above the last allocated number, and nothing
allocates it afterwards. -/
theorem test_record_untaken_at_reset :
    let s := after (.intervalClose bookLater) (minuteIn .good [])
    let t := after .powerFail s
    s.flow.log.map LogRecord.seq = [1] ∧ s.book.lastSeq = 0 ∧ t.flow.log.map LogRecord.seq = [1] ∧ t.book.lastSeq = 0 ∧
      t.flow.untaken = [] ∧ (after .clockTick s).book.lastSeq = 1 := by decide

/-- A running SC6 in a changeover. -/
def changing : State :=
  { live with move := { live.move with
    mode := .changeover, wanted := .inject, changeover := some { target := .inject, seconds := 0 } } }

theorem witness_AutoEvaluation :
    live.takes .setSiteControl (raw .ops [2#8]) [2] ∧ live.takes .setSiteControl (raw .ops [1#8]) [1] ∧
    (live.takes .setSiteControl (raw .ops [0#8]) [0] ∧ live.params.siteControl = .manual) ∧
    ((underAuto live).takes .setSiteControl (raw .ops [0#8]) [0] ∧ (underAuto live).params.siteControl = .auto) ∧
    live.move.mode ≠ .changeover ∧ State.reset.running = false ∧
    (changing.running = true ∧ changing.move.mode = .changeover ∧
      changing.move.changeover = some { target := .inject, seconds := 0 } ∧ changing.params.siteControl = .manual) ∧
    (let s := after (.setSiteMode (raw .ops [2#8])) changing
     s.move.changeover = some { target := .withdraw, seconds := 900 }) ∧
    (underAuto changing).params.siteControl = .auto := by unfold State.takes; decide

theorem witness_SetSiteMode :
    live.takes .setSiteMode (raw .ops [3#8]) [3] ∧
    ((underAuto live).takes .setSiteMode (raw .ops [0#8]) [0] ∧ (underAuto live).params.siteControl = .auto) ∧
    (let s := after (.pinLevelChange 3 true) siteChannel
     s.takes .setSiteMode (raw .ops [2#8]) [2] ∧ s.move.mode = .shutdown) ∧
    (live.takes .setSiteMode (raw .ops [1#8]) [1] ∧ live.params.siteControl = .manual ∧ live.move.mode ≠ .shutdown) ∧
    (let s := after .changeoverExpiry changing
     s.takes .setSiteMode (raw .ops [2#8]) [2] ∧ s.move.mode ≠ .changeover ∧
       (after (.setSiteMode (raw .ops [2#8])) s).move.mode = .changeover) := by unfold State.takes; decide

/-- R91, R101: entry to CHANGEOVER stops a RUNNING unit for T_cool and leaves a COOLDOWN timer that runs. -/
theorem witness_SetSiteMode_stops :
    let s : State := { unitIn .running true live with move := { live.move with mode := .inject } }
    let s : State := { s with duty := { s.duty with
      units := s.duty.units.set 2 { s.duty.units[2] with state := .cooldown, timer := some 7 } } }
    let r := raw .ops [2#8]
    let t := after (.setSiteMode r) s
    (s.takes .setSiteMode r [2] ∧ s.params.siteControl = .manual ∧ s.move.mode ≠ .changeover) ∧ t.move.mode = .changeover ∧
    (t.duty.units[1].state, t.duty.units[1].timer) = (.cooldown, some 300) ∧
    (t.duty.units[2].state, t.duty.units[2].timer) = (.cooldown, some 7) ∧ t.duty.units[0] = s.duty.units[0] := by
  unfold State.takes; decide

/-- A running SC6 in INJECT with cavern 0 in service between 100,000 and 200,000 Pa, its unit UP and its pressure point at a
value and a quality. -/
def sited (value : Int) (q : Quality) : State :=
  let s := withParams (fun p => { p with caverns := p.caverns.set 0 { p.caverns[0] with
    enabled := true, pMin := 100000, pMax := 200000, injRating := 101, wdrRating := 103 } }) live
  { s with
    move := { s.move with mode := .inject }
    link := { s.link with health := s.link.health.set 0 ⟨.up, 0⟩ }
    survey := { s.survey with points := s.survey.points.set s.params.caverns[0].point { PointState.atReset with
      value := value, quality := q } } }

theorem witness_CavernAndCapacityTables :
    let s := sited 150000 .good
    let restricted : State := { s with move := { s.move with
      caverns := s.move.caverns.set 0 { s.move.caverns[0] with restricted := true } } }
    let pipe (v : Int) : State := { s with survey := { s.survey with
      points := s.survey.points.set s.params.pipelinePoint { PointState.atReset with value := v, quality := .held } } }
    ((sited 199999 .held).availInj 0, (sited 200000 .good).availInj 0) = (true, false) ∧
    ((sited 100001 .held).availWdr 0, (sited 100000 .good).availWdr 0) = (true, false) ∧
    ((sited 150000 .failed).availInj 0, (sited 150000 .unknown).availWdr 0) = (false, false) ∧
    (s.injContribution 0, s.wdrContribution 0) = (101, 103) ∧
    (restricted.injContribution 0, restricted.wdrContribution 0) = (50, 51) ∧
    (s.cavernState 0, (sited 200000 .good).cavernState 0, s.cavernState 1) = (.flowing, .idle, .disabled) ∧
    (s.reach (.cavern 0) (.channel 0)).cavernState 0 = .tripped ∧
    (live.boostRequired, s.boostRequired) = (false, true) ∧
    ((pipe (150000 - s.params.boostMargin)).boostRequired, (pipe (150001 - s.params.boostMargin)).boostRequired) =
      (false, true) := by decide

/-- R94, R95, R111, R141, R142, R152: the other tables. -/
theorem witness_CavernAndCapacityTables_rates :
    let s := sited 150000 .good
    let started (at' : Nat) (n : Nat) : State := { s with
      time := { s.time with clock := 7200 }
      duty := { s.duty with units := s.duty.units.set 1 { s.duty.units[1] with startLog := List.replicate n at' } } }
    let hour (d : Int) : State :=
      let s := clocked 36000
      { s with nom := { s.nom with summaries := s.nom.summaries.map fun b =>
          if b.hour = 10 then { b with direction := d } else b } }
    s.params.duty.startLimit = 3 ∧
    ((started 3601 3).evalInhibit.duty.units[1].inhibited, (started 3600 3).evalInhibit.duty.units[1].inhibited,
      (started 3601 2).evalInhibit.duty.units[1].inhibited) = (true, false, false) ∧
    ((started 3601 3).evalInhibit.duty.units[1].available, s.duty.units[1].available) = (false, true) ∧
    (s.dryer.trains[0].available = true ∧ (s.reach (.train 0) (.channel 0)).dryer.trains[0].available = false) ∧
    s.figures = (101, 103, 101, 0) ∧
    ((hour (-1)).hourDirection, (hour 1).hourDirection, live.hourDirection) = (-1, 1, 0) ∧
    ((clocked 36000).nom.summaries.map (·.hour)).Nodup ∧
    ((hour 1).nom.summaries.filter fun b => b.hour = 36000 / 3600).length = 1 := by decide

/-- The arguments of a SET_CAVERN for cavern 5. -/
def cavernValues (point pMin pMax : Int) : List Int := [5, 1, point, pMin, pMax, 10000, 0, 4000000000]

theorem witness_CavernRequests :
    (live.takes .setCavern (ask .ops .setCavern 31 (cavernValues 5 100000 100000)) (cavernValues 5 100000 100000) ∧
      cavernArgs (cavernValues 5 100000 100000) = none) ∧
    (live.takes .setCavern (ask .ops .setCavern 31 (cavernValues 5 100000 100001)) (cavernValues 5 100000 100001) ∧
      (cavernArgs (cavernValues 5 100000 100001)).isSome = true) ∧
    (live.takes .setCavern (ask .ops .setCavern 31 (cavernValues 6 100000 100001)) (cavernValues 6 100000 100001) ∧
      (cavernArgs (cavernValues 6 100000 100001)).map (·.2.point) ≠ some live.params.caverns[5].point) ∧
    live.takes .setPipeline (ask .ops .setPipeline 5 [48, 0]) [48, 0] ∧
    live.takes .setPipeline (ask .ops .setPipeline 5 [47, 2000001]) [47, 2000001] ∧
    live.takes .setPipeline (ask .ops .setPipeline 5 [47, 2000000]) [(47 : Fin 48).val, 2000000] ∧
    live.takes .setCavernInventory (ask .ops .setCavernInventory 9 [6, 0]) [6, 0] ∧
    live.takes .setCavernInventory (ask .ops .setCavernInventory 9 [5, -1]) [(5 : Fin 6).val, -1] := by
  unfold State.takes; decide

theorem witness_ParameterSettings_period :
    live.takes .setSurveyPeriod (ask .ops .setSurveyPeriod 4 [249]) [((249 : Nat) : Int)] ∧
    live.takes .setSurveyPeriod (ask .ops .setSurveyPeriod 4 [250]) [((250 : Nat) : Int)] ∧
    live.takes .setSurveyPeriod (ask .ops .setSurveyPeriod 4 [60000]) [((60000 : Nat) : Int)] ∧
    live.takes .setSurveyPeriod (ask .ops .setSurveyPeriod 4 [60001]) [((60001 : Nat) : Int)]:= by
  unfold State.takes; decide

theorem witness_ParameterSettings :
    live.takes .setChangeoverTime (ask .ops .setChangeoverTime 4 [300]) [((300 : Nat) : Int)] ∧
    live.takes .setChangeoverTime (ask .ops .setChangeoverTime 4 [299]) [((299 : Nat) : Int)] ∧
    live.takes .setCv (ask .ops .setCv 4 [45000]) [((45000 : Nat) : Int)] ∧
    live.takes .setCv (ask .ops .setCv 4 [45001]) [((45001 : Nat) : Int)] ∧
    live.takes .setRunSeconds (ask .ops .setRunSeconds 5 [4, 1]) [4, ((1 : Nat) : Int)] ∧
    live.takes .setRunSeconds (ask .ops .setRunSeconds 5 [3, 1]) [(3 : Fin 4).val, ((1 : Nat) : Int)] ∧
    live.takes .setLineRate (ask .ops .setLineRate 5 [3, 9600]) [3, ((9600 : Nat) : Int)] ∧
    live.takes .setLineRate (ask .ops .setLineRate 5 [0, 9600]) [0, ((9600 : Nat) : Int)] ∧
    live.takes .setLineRate (ask .ops .setLineRate 5 [1, 460800]) [1, ((460800 : Nat) : Int)] ∧
    live.takes .setLineRate (ask .ops .setLineRate 5 [2, 9601]) [2, ((9601 : Nat) : Int)] ∧
    live.takes .setLeadTime (raw .com [6#8]) [((6 : Nat) : Int)] ∧
    live.takes .setLeadTime (raw .com [7#8]) [((7 : Nat) : Int)] ∧ (clocked 7200).time.lost = false ∧
    live.takes .resetEntryCounter (raw .com []) [] := by unfold State.takes; decide

theorem witness_UnitRequests :
    live.takes .startUnit (raw .ops [4#8, 1#8]) [4, 1] ∧ live.takes .startUnit (raw .ops [1#8, 0#8]) [1, 0] ∧
    live.takes .startUnit (raw .ops [1#8, 16#8]) [1, 16] ∧
    ((unitIn .running true live).takes .startUnit (raw .ops [1#8, 15#8]) [(1 : Fin 4).val, ((15 : Nat) : Int)] ∧
      (unitIn .running true live).duty.units[1].state ≠ .stopped) ∧
    (changing.takes .startUnit (raw .ops [1#8, 15#8]) [(1 : Fin 4).val, ((15 : Nat) : Int)] ∧
      changing.move.mode = .changeover) ∧
    (live.takes .startUnit (raw .ops [1#8, 15#8]) [(1 : Fin 4).val, ((15 : Nat) : Int)] ∧
      live.params.units[1].source = .manual ∧ live.move.mode ≠ .changeover ∧ live.move.mode ≠ .shutdown ∧
      live.duty.units[1].state = .stopped ∧ live.duty.queue = [] ∧
      (∀ j : Fin 4, live.params.units[j].source = .manual ∧ live.duty.units[j].state ≠ .starting) ∧
      recentStarts live.time.clock live.duty.units[1].startLog < live.params.duty.startLimit) ∧
    live.takes .stopUnit (raw .ops [4#8]) [4] ∧ live.takes .stopUnit (raw .ops [1#8]) [(1 : Fin 4).val] := by
  unfold State.takes; decide

theorem witness_UnitRequests_inv : UnitInv live := live_unitInv

/-- The arguments of a SET_UNIT for unit 1. -/
def unitValues (inService rating : Int) : List Int := [1, inService, 0, rating, 4]

theorem witness_DutySettings :
    (live.takes .setUnit (ask .ops .setUnit 12 (unitValues 1 999999)) (unitValues 1 999999) ∧
      setUnitArgs (unitValues 1 999999) = none) ∧
    ((unitIn .cooldown false live).takes .setUnit (ask .ops .setUnit 12 (unitValues 0 1000000)) (unitValues 0 1000000) ∧
      (setUnitArgs (unitValues 0 1000000)).map (·.2.inService) = some false ∧
      (unitIn .cooldown false live).duty.units[1].state = .cooldown) ∧
    ((unitIn .outOfService false live).takes .setUnit (ask .ops .setUnit 12 (unitValues 1 4000000000))
        (unitValues 1 4000000000) ∧
      (setUnitArgs (unitValues 1 4000000000)).map (·.2.inService) = some true ∧
      (unitIn .outOfService false live).duty.units[1].state = .outOfService ∧
      ((unitIn .outOfService false live).prot.latched .site || (unitIn .outOfService false live).prot.latched (.unit 1)) =
        false ∧ (unitIn .outOfService false live).duty.queued 1 = false) ∧
    live.takes .setDuty (ask .ops .setDuty 13 [59, 60, 60, 1])
      [((59 : Nat) : Int), ((60 : Nat) : Int), ((60 : Nat) : Int), ((1 : Nat) : Int)] ∧
    (unitIn .cooldown false live).takes .setDuty (ask .ops .setDuty 13 [900, 1800, 3600, 6])
      [((900 : Nat) : Int), ((1800 : Nat) : Int), ((3600 : Nat) : Int), ((6 : Nat) : Int)] := by
  unfold State.takes; decide

/-- R96: an AUTO entry behind a STARTING unit, its unit then made MANUAL at auto priority level 4. -/
theorem witness_DutySettings_level :
    let s := withParams (fun p => { p with units := p.units.set 1 { UnitParams.default with source := .auto } })
      { live with duty := { live.duty with
          units := live.duty.units.set 0 { live.duty.units[0] with state := .starting }
          queue := [{ unit := 1, kind := .auto, level := 9 }] } }
    let t := after (.setUnit (ask .ops .setUnit 12 [1, 1, 1, 1000000, 4])) s
    UnitInv s ∧ s.takes .setUnit (ask .ops .setUnit 12 [1, 1, 1, 1000000, 4]) [1, 1, 1, 1000000, 4] ∧
    (setUnitArgs [1, 1, 1, 1000000, 4]).map (fun x => (x.2.inService, x.2.source, x.2.level)) = some (true, .manual, 4) ∧
    t.duty.units[1].state = .stopped ∧ t.duty.queue = [{ unit := 1, kind := .manual, level := 4 }] := by
  unfold UnitInv State.takes; decide

theorem witness_UnitEvents :
    State.reset.running = false ∧ live.running = true ∧
    ((unitIn .starting false live).duty.units[1].state = .starting ∧ true ≠ (unitIn .starting false live).duty.units[1].feedback ∧
      (unitIn .starting false live).duty.queued 1 = false) ∧
    ((unitIn .running true live).duty.units[1].state = .running ∧ false ≠ (unitIn .running true live).duty.units[1].feedback) ∧
    (unitIn .starting true live).duty.units[1].feedback = true ∧
    (let s := timerOut 1 (unitIn .starting false live)
     s.running = true ∧ s.duty.units[1].state = .starting ∧ s.duty.units[1].feedback = false ∧
       s.duty.units[1].timer = some 0) ∧
    ((timerOut 1 (unitIn .cooldown true live)).duty.units[1].state = .cooldown ∧
      (timerOut 1 (unitIn .cooldown true live)).duty.units[1].timer = some 0 ∧
      (timerOut 1 (unitIn .cooldown true live)).duty.units[1].feedback = true) ∧
    (let s := timerOut 1 (unitIn .cooldown false live)
     s.duty.units[1].timer = some 0 ∧ s.duty.units[1].feedback = false ∧ s.params.units[1].source = .manual ∧
       s.duty.queued 1 = false) ∧
    (unitIn .cooldown false live).duty.units[1].timer ≠ some 0 ∧ live.duty.stopDelay ≠ some 0 := by decide

/-- A running SC6 whose stop delay has run out, unit 1 an AUTO unit RUNNING beyond demand. -/
def surplus : State :=
  let s := unitIn .running true live
  withParams (fun p => { p with units := p.units.set 1 { UnitParams.default with source := .auto } })
    { s with duty := { s.duty with stopDelay := some 0 } }

theorem witness_UnitEvents_stopDelay :
    surplus.running = true ∧ surplus.duty.stopDelay = some 0 ∧ UnitInv surplus ∧ surplus.params.units[1].source = .auto ∧
      surplus.duty.units[1].state = .running := by unfold UnitInv; decide

/-- What the duty controller reads in INJECT with a net rate and every unit AUTO. -/
def injecting (net : Int) : DutyEnv :=
  { units := Vector.replicate 4 { UnitParams.default with source := .auto }, duty := DutyParams.default, mode := .inject,
    boost := true, net := net, clock := 7 }

theorem witness_DutyReaction :
    (∀ i, (live.dutyEnv).isAuto i = false) ∧
    ((injecting 600000000).isAuto 0 = true ∧
      (∀ j, (injecting 600000000).isAuto j = true → (injecting 600000000).units[0].rating ≤ (injecting 600000000).units[j].rating) ∧
      (injecting 600000000).mode = .inject ∧ 0 < (injecting 600000000).net) ∧
    (let e : DutyEnv := { injecting (-1) with mode := .withdraw }
     e.isAuto 0 = true ∧ e.mode = .withdraw ∧ e.boost = true ∧ e.net < 0) ∧
    ((injecting 0).mode ≠ .inject ∨ (injecting 0).net ≤ 0) ∧
    (let d : Duty := { live.duty with queue := [{ unit := 2, kind := .auto, level := 4 }] }
     (d.queue.map (·.unit)).Nodup ∧
     (∀ q ∈ d.queue, d.units[q.unit].state = .stopped ∧ q.kind = (injecting 1).units[q.unit].source) ∧
     (injecting 1).mode ≠ .changeover ∧ (injecting 1).mode ≠ .shutdown ∧
     (∀ i j : Fin 4, d.units[i].state = .starting → d.units[j].state = .starting → i = j) ∧
     (∀ i : Fin 4, d.units[i].state ≠ .starting) ∧ ({ unit := 2, kind := .auto, level := 4 } : QueueEntry) ∈ d.queue ∧
     d.units[(2 : Fin 4)].inhibited = false ∧ d.units[(2 : Fin 4)].feedback = false) := by decide

/-- The arguments of a SET_TRAIN for train 1. -/
def trainValues (switch spec capacity : Int) : List Int :=
  [1, 1, 600000000, 41, 43, switch, spec, capacity] ++ [0, 500, 1000, 1500, 2000, 2500, 3000, 3500] ++
    [80, 110, 150, 200, 270, 360, 470, 610]

/-- R109, R112, R115: a SET_TRAIN that changes two groups at once. -/
theorem witness_DryerSettings_groups :
    let two := (trainValues (-1400) (-800) 2000).set 1 0
    live.takes .setTrain (ask .ops .setTrain 88 two) two ∧
    (trainArgs two).map (fun x => (x.2.inService, x.2.switchLimit)) = some (false, -1400) ∧
    (trainArgs (trainValues (-1400) (-800) 10)).map (fun x => (x.2.switchLimit, x.2.capacity)) = some (-1400, 10) ∧
    ([0, 500, 1000, 1500, 2000, 2500, 3000, 3500] : List Int).length = 8 ∧
    trainArgs (trainValues (-6001) (-800) 2000) = none ∧ (trainArgs (trainValues (-6000) 2000 50000)).isSome = true ∧
    trainArgs (trainValues (-6000) 2001 50000) = none ∧ trainArgs (trainValues (-6000) 2000 50001) = none := by
  unfold State.takes; decide

theorem witness_DryerSettings :
    (live.takes .setTrain (ask .ops .setTrain 88 (trainValues (-800) (-800) 2000)) (trainValues (-800) (-800) 2000) ∧
      trainArgs (trainValues (-800) (-800) 2000) = none) ∧
    (live.takes .setTrain (ask .ops .setTrain 88 (trainValues (-1500) (-800) 2000)) (trainValues (-1500) (-800) 2000) ∧
      trainArgs (trainValues (-1500) (-800) 2000) = some (1, TrainParams.default 1)) ∧
    (live.takes .setTrain (ask .ops .setTrain 88 (trainValues (-1500) (-800) 10)) (trainValues (-1500) (-800) 10) ∧
      (trainArgs (trainValues (-1500) (-800) 10)).map (·.2.capacity) = some 10) ∧
    (live.takes .setTrain (ask .ops .setTrain 88 (trainValues (-1400) (-800) 2000)) (trainValues (-1400) (-800) 2000) ∧
      (trainArgs (trainValues (-1400) (-800) 2000)).map (·.2.switchLimit) = some (-1400)) ∧
    (let out := (trainValues (-1500) (-800) 2000).set 1 0
     live.takes .setTrain (ask .ops .setTrain 88 out) out ∧ (trainArgs out).map (·.2.inService) = some false) ∧
    live.takes .setDryer (ask .ops .setDryer 12 [3599, 1800, 3600])
      [((3599 : Nat) : Int), ((1800 : Nat) : Int), ((3600 : Nat) : Int)] ∧
    live.takes .setDryer (ask .ops .setDryer 12 [43200, 21600, 172800])
      [((43200 : Nat) : Int), ((21600 : Nat) : Int), ((172800 : Nat) : Int)] ∧
    live.takes .setDryer (ask .ops .setDryer 12 [3600, 1800, 43200])
      [((3600 : Nat) : Int), ((1800 : Nat) : Int), ((43200 : Nat) : Int)] ∧ live.params.dryer.maxAds = 43200 ∧
    (dryingTrain .ready 0).state.isDrying = true := by unfold State.takes; decide

/-- A running SC6 with tower 0 in a state and its partner in another. -/
def towers (a b : TowerState) (pending : Bool) : State :=
  let w (st : TowerState) (p : Bool) : Tower :=
    { state := st, loading := 9, adsSeconds := 0, pending := p, timer := if st = .cooling ∨ st = .heating then some 0 else none }
  withTower 1 (w b pending) (withTower 0 (w a false) live)

/-- A train in a state with DEW_HIGH set and its two towers in theirs. -/
def trainWith (st : TrainState) (a b : TowerState) : Train :=
  let w (x : TowerState) : Tower := { state := x, loading := 9, adsSeconds := 5, pending := true, timer := some 4 }
  { state := st, dewHigh := true, towers := #v[w a, w b] }

/-- What a train reads in WITHDRAW or not, in service or not, tripped or not. -/
def readsWith (tripped withdraw inService : Bool) : TrainEnv :=
  { tripped := tripped, withdraw := withdraw, params := { TrainParams.default 0 with inService := inService }
    dryer := DryerParams.default }

/-- R109: each line of the table. -/
theorem witness_DryerSettings_states :
    (trainWith .standby .ready .ready).derivedState (readsWith true true false) = .tripped ∧
    (trainWith .standby .ready .ready).derivedState (readsWith false true false) = .outOfService ∧
    (trainWith .offSpec .adsorbing .ready).derivedState (readsWith false false true) = .standby ∧
    (trainWith .offSpec .adsorbing .ready).derivedState (readsWith false true true) = .offSpec ∧
    (trainWith .tripped .cooling .ready).derivedState (readsWith false true true) = .inService ∧
    (trainWith .tripped .cooling .loaded).derivedState (readsWith false true true) = .standby := by decide

/-- R110, R117, R119, R120: entry into TRIPPED, a passage to OUT_OF_SERVICE, the return to STANDBY, and the entry into
IN_SERVICE, which takes the lower-index READY tower and clears DEW_HIGH. -/
theorem witness_DryerSettings_towers :
    let shown (e : TrainEnv) (t : Train) : Bool × List (TowerState × Option Nat) :=
      ((t.derive e).dewHigh, (t.derive e).towers.toList.map fun w => (w.state, w.timer))
    shown (readsWith true true true) (trainWith .inService .adsorbing .heating) =
      (true, [(.adsorbing, some 4), (.loaded, none)]) ∧
    shown (readsWith false true false) (trainWith .tripped .cooling .loaded) =
      (true, [(.cooling, some 4), (.loaded, some 4)]) ∧
    shown (readsWith false false true) (trainWith .tripped .cooling .loaded) =
      (true, [(.cooling, some 7200), (.loaded, some 4)]) ∧
    shown (readsWith false false true) (trainWith .outOfService .loaded .loaded) =
      (true, [(.heating, some 14400), (.loaded, some 4)]) ∧
    shown (readsWith false true true) (trainWith .standby .ready .ready) =
      (false, [(.adsorbing, none), (.ready, some 4)]) := by decide

theorem witness_TowerCommands :
    live.takes .setTower (raw .ops [4#8, 0#8]) [4, 0] ∧ live.takes .setTower (raw .ops [0#8, 2#8]) [0, 2] ∧
    ((towers .heating .ready false).takes .setTower (raw .ops [0#8, 0#8]) [(0 : Fin 4).val, 0] ∧
      ((towers .heating .ready false).tower 0).state = .heating) ∧
    ((withdrawing 1).takes .setTower (raw .ops [0#8, 0#8]) [(0 : Fin 4).val, 0] ∧
      ((withdrawing 1).tower 0).state = .adsorbing ∧ (withdrawing 1).dryer.trains[towerTrain 0].state.isDrying = true) ∧
    ((towers .outOfService .ready false).takes .setTower (raw .ops [0#8, 0#8]) [(0 : Fin 4).val, 0] ∧
      ((towers .outOfService .ready false).tower 0).state = .outOfService) ∧
    (live.takes .setTower (raw .ops [0#8, 0#8]) [(0 : Fin 4).val, 0] ∧ (live.tower 0).state = .ready) ∧
    ((towers .outOfService .ready false).takes .setTower (raw .ops [0#8, 1#8]) [(0 : Fin 4).val, 1] ∧
      (towers .outOfService .heating false).takes .setTower (raw .ops [0#8, 1#8]) [(0 : Fin 4).val, 1] ∧
      ((towers .outOfService .heating false).dryer.trains[towerTrain 0].towers[partner (towerPlace 0)]).regenerating = true ∧
      ((live.prot.latched .site || live.prot.latched (.train (towerTrain 0))) = false ∧
        live.params.trains[towerTrain 0].inService = true)) := by unfold State.takes; decide

/-- An expiry before its time, and one of a tower whose train is held. -/
theorem witness_TowerCommands_not_due :
    (let w : Tower := { state := .cooling, loading := 0, adsSeconds := 5, pending := false, timer := some 1 }
     ((withTower 0 w live).tower 0).timer ≠ some 0) ∧
    (let w : Tower := { state := .cooling, loading := 0, adsSeconds := 5, pending := false, timer := some 0 }
     let s := (withTower 0 w live).reach (.train 0) (.channel 0)
     (s.tower 0).timer = some 0 ∧ s.dryer.trains[towerTrain 0].state.isHeld = true) := by decide

theorem witness_TowerCommands_expiries :
    State.reset.running = false ∧ (live.tower 0).state ≠ .heating ∧ (live.tower 0).state ≠ .cooling ∧
    (((towers .heating .ready false).tower 0).state = .heating ∧ ((towers .heating .ready false).tower 0).timer = some 0 ∧
      TrainInv (towers .heating .ready false)) ∧
    (((towers .cooling .adsorbing true).tower 0).state = .cooling ∧ ((towers .cooling .adsorbing true).tower 0).timer = some 0 ∧
      TrainInv (towers .cooling .adsorbing true) ∧
      (towers .cooling .adsorbing true).dryer.trains[towerTrain 0].state.isHeld = false ∧
      ((towers .cooling .adsorbing true).dryer.trains[towerTrain 0].towers[partner (towerPlace 0)]).pending = true) := by
  unfold TrainInv Train.sound; decide

theorem witness_TowerCommands_cooled :
    (let s : State := { towers .cooling .loaded false with move := { live.move with mode := .withdraw } }
     TrainInv s ∧ s.move.mode = .withdraw ∧ s.dryer.trains[towerTrain 0].state = .standby ∧
       (s.dryer.trains[towerTrain 0].towers[partner (towerPlace 0)]).state = .loaded) ∧
    (TrainInv (towers .cooling .loaded false) ∧ (towers .cooling .loaded false).move.mode ≠ .withdraw) := by
  unfold TrainInv Train.sound; decide

/-- The arguments of a SET_CHANNEL for channel 31 on its pin 15, ACTIVE_HIGH. -/
def channelValues (enable debounce cls targets : Int) : List Int := [31, enable, 0, 15, 0, 6, 3, 1, 47, debounce, cls, targets]

/-- A SET_CHANNEL request. -/
def setChannelAsk (enable debounce cls targets : Int) : Request :=
  ask .ops .setChannel 16 (channelValues enable debounce cls targets)

/-- A running SC6 with pin 15 HIGH. -/
def pinHigh : State := { live with prot := { live.prot with pins := live.prot.pins.set 15 true } }

theorem witness_ProtectionChannels :
    (live.takes .setChannel (setChannelAsk 1 0 1 0) (channelValues 1 0 1 0) ∧ channelArgs (channelValues 1 0 1 0) = none) ∧
    (pinHigh.takes .setChannel (setChannelAsk 0 2000 0 4095) (channelValues 0 2000 0 4095) ∧
      (channelArgs (channelValues 0 2000 0 4095)).map (fun x => x.2.enabled) = some false) ∧
    (pinHigh.takes .setChannel (setChannelAsk 1 2000 0 0) (channelValues 1 2000 0 0) ∧
      (channelArgs (channelValues 1 2000 0 0)).map (fun x => (x.2.enabled, x.2.debounce)) = some (true, 2000) ∧
      ((after (.setChannel (setChannelAsk 1 2000 0 0)) pinHigh).prot.channels[31]).timer = some 2000) ∧
    (pinHigh.takes .setChannel (setChannelAsk 1 0 1 2048) (channelValues 1 0 1 2048) ∧
      (channelArgs (channelValues 1 0 1 2048)).map (fun x => (x.2.enabled, x.2.debounce)) = some (true, 0) ∧
      ((after (.setChannel (setChannelAsk 1 0 1 2048)) pinHigh).prot.channels[31]).live = true) := by
  unfold State.takes; decide

/-- A running SC6 whose channel 3, of a class and with targets, waits for its debounce. -/
def debouncing (cls : ChannelClass) (targets : BitVec 12) : State :=
  let s := withParams (fun p => { p with channels := p.channels.set 3 { p.channels[3] with
    debounce := 5, cls := cls, targets := targets } }) siteChannel
  { s with prot := { s.prot with
      pins := s.prot.pins.set 3 true, channels := s.prot.channels.set 3 { source := true, timer := some 0, live := false } } }

theorem witness_ProtectionChannels_events :
    State.reset.running = false ∧ live.params.channels[3].enabled = false ∧ siteChannel.prot.channels[3].timer = none ∧
    (siteChannel.running = true ∧
      (after (.pinLevelChange 3 true) (debouncing .site 0)).prot.channels[3].timer = some 0) ∧
    (let s := { debouncing .site 0 with prot := siteChannel.prot }
     (after (.pinLevelChange 3 true) s).prot.channels[3].timer = some 5) ∧
    ((debouncing .site 0).running = true ∧ (debouncing .site 0).params.channels[3].enabled = true ∧
      (debouncing .site 0).prot.channels[3].timer = some 0 ∧ (debouncing .site 0).params.channels[3].cls = .site) ∧
    (debouncing .equipment 2#12).params.channels[3].cls = .equipment ∧
    (debouncing .advisory 0).params.channels[3].cls = .advisory ∧
    (∀ c : Fin 32, c ≠ 3 → ¬(debouncing .site 0).params.channels[c].enabled = true) := by decide

/-- R126, R127: each form's source at one state, on a pin, a line and a point, with unit 1 UP and DOWN. -/
theorem witness_ProtectionChannels_sources :
    let k : ChannelConfig := { (ChannelConfig.default 3) with
      enabled := true, pin := 2, pinHigh := true, unit := 0, line := 1, lineHigh := false, point := 47 }
    let source (form : SourceForm) (pin line : Bool) (h : Health) : Bool :=
      let s := withParams (fun p => { p with channels := p.channels.set 3 { k with form := form } }) live
      ({ s with prot := { s.prot with pins := s.prot.pins.set 2 pin }
                link := { s.link with lines := s.link.lines.set 0 (Vector.replicate 4 line)
                                      health := s.link.health.set 0 ⟨h, 0⟩ }
                survey := { s.survey with points := s.survey.points.set 47 { PointState.atReset with
                  alarmHigh := true } } } : State).sourceOf 3
    (source .pin true true .up, source .pin false true .up) = (true, false) ∧
    (source .line true false .up, source .line true true .up, source .line true false .down) = (true, false, true) ∧
    (source .pointHigh false true .up, source .pointLow false true .up) = (true, false) ∧
    (source .pinOrLine false false .up, source .pinOrLine false true .up, source .pinOrLine false true .down) =
      (true, false, true) ∧
    (source .pinAndLine true false .up, source .pinAndLine true true .up, source .pinAndLine true true .down) =
      (true, false, true) := by decide

/-- A running SC6 whose ADVISORY channel 3, without debounce, reads line 1 of unit 1, LOW its active level, or a point's HIGH
flag; unit 1 is UP with its lines HIGH. -/
def reading (form : SourceForm) (p : Fin 48) (s : State) : State :=
  let s := withParams (fun q => { q with channels := q.channels.set 3 { (ChannelConfig.default 3) with
    enabled := true, form := form, unit := 0, line := 1, lineHigh := false, point := p, debounce := 0, cls := .advisory } }) s
  { s with link := { s.link with health := s.link.health.set 0 ⟨.up, 0⟩
                                 lines := s.link.lines.set 0 (Vector.replicate 4 true) } }

/-- What the channel of `reading` shows, and whether POINT_ALARM and LINK_STATE stand at OPS. -/
def shown (t : State) : Bool × Bool × Bool × Bool :=
  (t.prot.channels[3].live, t.prot.advisory.getLsbD 3, t.ports.ops.causes.getLsbD 3, t.ports.ops.causes.getLsbD 2)

/-- O26, O27: a unit's lines and health set, by a transaction or by SET_LINK, are seen by the channel that reads them. -/
theorem witness_ProtectionChannels_lines :
    let s := reading .line 0 live
    let flown (frame : LinkFrame) : State :=
      let link := (flying (entry .read (.surveyRead 0 0)) false).link
      after (.linkFrameReceived frame) { s with link := { s.link with flight := link.flight } }
    shown (s.setUnitLink 0 ⟨.up, 0⟩ (Vector.replicate 4 true)) = (false, false, false, false) ∧
    shown (s.setUnitLink 0 ⟨.up, 0⟩ (Vector.replicate 4 false)) = (true, true, false, false) ∧
    shown (flown { reply [5#16] with lines := Vector.replicate 4 false }) = (true, true, false, false) ∧
    shown (flown (reply [5#16])) = (false, false, false, false) ∧
    (PassInv s ∧ shown (after (.setLink (ask .ops .setLink 13 [20, 0, 1, 1, 1, 1, 1, 0])) s) = (true, true, false, true)) := by
  unfold PassInv; decide

/-- O26, O29, O30, O33: a flag that a publication, a setting or a change of quality moves raises POINT_ALARM and is seen by
the channel that reads it. -/
theorem witness_ProtectionChannels_flags :
    let low : PointConfig := { point20 with source := .local 0, high := 1000, avg := 1, alarmHigh := 900, hysteresis := 0 }
    let s := withParams (fun q => { q with points := q.points.set 5 low }) (reading .pointHigh 5 live)
    let at5 (w : PointState) : State := { s with survey := { s.survey with points := s.survey.points.set 5 w } }
    shown (after (.passDue (Vector.replicate 16 65535#16)) s) = (true, true, true, false) ∧
    shown (after (.passDue (Vector.replicate 16 0#16)) s) = (false, false, false, false) ∧
    shown (after (.setPoint (ask .ops .setPoint 37 [5, 1, 0, 0, 0, 0, 0, 1000, 3, 1, 1, 899, 0, 0, 10, 60]))
      (at5 { PointState.atReset with value := 900, quality := .good })) = (true, true, true, false) ∧
    shown (after .clockTick (at5 { PointState.atReset with value := 901, quality := .good, age := 10 })) =
      (true, true, true, false) ∧
    shown (after .clockTick (at5 { PointState.atReset with value := 901, quality := .good, age := 9 })) =
      (false, false, false, false) := by decide

theorem witness_CauseReachesRecord :
    let s := live.reach .site (.channel 31)
    ((s.prot.record .site).latched = true ∧ (s.prot.record .site).hasCause (.channel 31) = true ∧
      (s.prot.record .site).hasCause .stopFail = false) ∧
    (live.prot.record (.unit 3)).latched = false ∧ (.unit 3 : RecordId) ≠ .site := by decide

/-- R119: the latch of a train's record and of the site's makes a HEATING tower LOADED, its loading kept. -/
theorem witness_CauseReachesRecord_towers :
    let s : State := { live with dryer := { live.dryer with trains := live.dryer.trains.set 1 (trainWith .standby .heating .ready) } }
    (s.prot.record (.train 1)).latched = false ∧ (s.prot.record .site).latched = false ∧
    ∀ r ∈ [RecordId.site, .train 1],
      let k := (s.reach r (.channel 0)).dryer.trains[1]
      k.state = .tripped ∧ k.dewHigh = true ∧
      k.towers[0] = { state := .loaded, loading := 9, adsSeconds := 5, pending := true, timer := none } := by decide

/-- A running SC6 whose record has latched on a cause. -/
def tripped (rec : RecordId) (c : TripCause) : State := live.reach rec c

theorem witness_ResetTrip :
    live.takes .resetTrip (raw .ops [14#8]) [14] ∧
    (live.takes .resetTrip (raw .ops [12#8]) [((RecordId.train 1).index.val : Int)] ∧ live.prot.latched (.train 1) = false) ∧
    (let s := unitIn .tripped true (tripped (.unit 1) .runLoss)
     s.takes .resetTrip (raw .ops [2#8]) [((RecordId.unit 1).index.val : Int)] ∧ s.prot.latched (.unit 1) = true ∧
       s.holds (.unit 1) .runLoss = true) ∧
    (let s := tripped .site (.channel 31)
     s.takes .resetTrip (raw .ops [0#8]) [(RecordId.site.index.val : Int)] ∧ s.prot.latched .site = true ∧
       (∀ i : Fin 32, s.holds .site (.channel i) = false) ∧ s.holds .site .startFail = false ∧
       s.holds .site .runLoss = false ∧ s.holds .site .stopFail = false ∧ ModeInv s) ∧
    (let s := tripped (.cavern 5) (.channel 0)
     s.takes .resetTrip (raw .ops [10#8]) [((RecordId.cavern 5).index.val : Int)] ∧ s.prot.latched (.cavern 5) = true ∧
       (∀ i : Fin 32, s.holds (.cavern 5) (.channel i) = false) ∧ ModeInv s) ∧
    live.accepting .ops = true := by unfold State.takes ModeInv; decide

/-- R117, R119, R120: RESET_TRIP of the site and of a train's record lets the train return, or leaves it to its other record
or to its parameter. -/
theorem witness_ResetTrip_towers :
    let s (a b : TowerState) (inService : Bool) (recs : List RecordId) : State :=
      let x := recs.foldl (fun s r => s.reach r (.channel 0)) live
      let x := withParams (fun p => { p with trains := p.trains.set 1 { p.trains[1] with inService := inService } }) x
      { x with dryer := { x.dryer with trains := x.dryer.trains.set 1 (trainWith .tripped a b) } }
    let after (r : RecordId) (x : State) : TrainState × List (TowerState × Option Nat) :=
      let k := (after (.resetTrip (raw .ops [BitVec.ofNat 8 r.index.val])) x).dryer.trains[1]
      (k.state, k.towers.toList.map fun w => (w.state, w.timer))
    (s .cooling .loaded true [.train 1]).takes .resetTrip (raw .ops [12#8]) [((RecordId.train 1).index.val : Int)] ∧
    ModeInv (s .cooling .loaded true [.site, .train 1]) ∧
    (∀ c : Fin 32, (s .cooling .loaded true [.site, .train 1]).holds .site (.channel c) = false) ∧
    after (.train 1) (s .cooling .loaded true [.train 1]) = (.standby, [(.cooling, some 7200), (.loaded, some 4)]) ∧
    after .site (s .loaded .ready true [.site]) = (.standby, [(.heating, some 14400), (.ready, some 4)]) ∧
    after (.train 1) (s .cooling .loaded true [.site, .train 1]) = (.tripped, [(.cooling, some 4), (.loaded, some 4)]) ∧
    after .site (s .cooling .loaded false [.site]) = (.outOfService, [(.cooling, some 4), (.loaded, some 4)]) := by
  unfold State.takes ModeInv; decide

/-- A running SC6 at 10:00:00 of day 0 with shipper 1 ACTIVE. -/
def trading : State :=
  let s := clocked 36000
  { s with book := { s.book with slots := s.book.slots.set 1 { Slot.first 1 with
      state := .active, space := 1000, injRight := 400000000, wdrRight := 400000000, inventory := 500 } } }

theorem witness_NominationRequests :
    (trading.takes .nominate (ask .com .nominate 13 [0, 13, 5]) (0 :: ((13 : Nat) : Int) :: [5])) ∧
    (trading.takes .nominate (ask .com .nominate 13 [33, 13, 5]) (33 :: ((13 : Nat) : Int) :: [5])) ∧
    (live.takes .nominate (ask .com .nominate 13 [32, 13, 5]) (32 :: ((13 : Nat) : Int) :: [5]) ∧ live.time.lost = true) ∧
    (trading.takes .nominate (ask .com .nominate 21 [1, 12, 5, -6]) (((1 : Nat) : Int) :: ((12 : Nat) : Int) :: [5, -6]) ∧
      trading.time.lost = false ∧ trading.nom.counter ≤ 4294967295 ∧
      ((after (.nominate (ask .com .nominate 21 [1, 12, 5, -6])) trading).ports.com.sending.map (·.content)) =
        some [0x14#8, 0#8] ∧
      ((after (.nominate (ask .com .nominate 21 [1, 12, 5, -6])) trading).nom.entries.map fun e => (e.hour, e.requested)) =
        [(13, -6)]) ∧ entriesSound trading.nom := by unfold State.takes entriesSound; decide

/-- The arguments of a SET_RATCHET. -/
def ratchetValues (last : Int) : List Int := [1, 0, 0, 1, 1000000, 2, 7, last, 1000000]

theorem witness_NominationRequests_ratchet :
    (trading.takes .setRatchet (ask .com .setRatchet 33 (ratchetValues 2)) (ratchetValues 2) ∧
      ratchetArgs (ratchetValues 2) = none) ∧
    (trading.takes .setRatchet (ask .com .setRatchet 33 (ratchetValues 1000000)) (ratchetValues 1000000) ∧
      (ratchetArgs (ratchetValues 1000000)).map (·.1) = some true) ∧
    (let n := (hourTen 0).recompute hourEnv fun _ => true
     hourEnv.lost = false ∧ n.entries ≠ [] ∧ sign (hourRates n.entries 10).sum = -1) ∧
    ({ hourEnv with lost := true } : NomEnv).lost = true ∧
    ((hourTen 0).outside { hourEnv with hour := 11 } 10 = true ∧ (hourTen 0).outside { hourEnv with hour := 11 } 34 = false ∧
      (hourTen 0).outside { hourEnv with hour := 9 } 33 = true ∧ (hourTen 0).outside hourEnv 10 = false) ∧
    (let n := (hourTen 0).recompute { hourEnv with hour := 11 } fun _ => true
     (hourTen 0).current ≠ 11 ∧ n.net = (hourTen 0).net) ∧
    trading.nom.outside trading.nomEnv 13 = false := by
  unfold State.takes; decide

/-- R150, R151: the clamped rate of a SUSPENDED shipper, at a fill of 0 (no space), and on either side of the right. -/
theorem witness_NominationRequests_clamp :
    let r : Ratchet := #v[(0, 400000), (200000, 1000000), (500000, 1000000), (1000000, 1000000)]
    let sl : Slot := { Slot.first 1 with
      state := .active, space := 1000000, injRight := 300000000, wdrRight := 100, inventory := 100000 }
    clampRate r r { sl with state := .suspended } 5 = 0 ∧ clampRate r r sl 210000000 = 210000000 ∧
    clampRate r r sl 210000001 = 210000000 ∧ clampRate r r sl (-71) = -70 ∧ clampRate r r sl (-70) = -70 ∧
    clampRate r r { sl with space := 0, inventory := 0 } 300000000 = 120000000 := by decide

/-- R153, R154, R156: the summaries of hour 10 and of an hour without entries, and a confirmation that changes a rate. -/
theorem witness_NominationRequests_confirm :
    let of (n : Nominations) (h : Nat) : Option Summary :=
      (n.recompute hourEnv fun _ => true).summaries.find? fun sm => sm.hour == h
    of (hourTen 0) 10 = some { hour := 10, direction := -1, basis := .effective, capacity := 0, withFlow := 480000000
                               limit := 95000000, curtailed := true } ∧
    of (hourTen 600000000) 10 = some { hour := 10, direction := -1, basis := .effective, capacity := 600000000
                                       withFlow := 480000000, limit := 695000000, curtailed := false } ∧
    of (hourTen 0) 11 = some { hour := 11, direction := 0, basis := .none, capacity := 0, withFlow := 0, limit := 0
                               curtailed := false } ∧
    (let s := changeoverHour 36000 .inject .current
     let s : State := { s with nom := { s.nom with current := 10 } }
     let kept := s.confirm (fun _ => true) s.nom
     kept.ports.com.causes = 32#11 ∧
       (kept.confirm (fun _ => true) kept.nom).nom.entries.map (·.confirmed) = kept.nom.entries.map (·.confirmed)) := by decide

/-- The arguments of a STAGE_OPENING for slot 32. -/
def stageValues (state space inventory : Int) : List Int := [32, state, space, 100000000000, 0, inventory]

theorem witness_OpeningTheBook :
    (live.takes .stageOpening (ask .com .stageOpening 34 (stageValues 3 0 0)) (stageValues 3 0 0) ∧
      stageArgs (stageValues 3 0 0) = none) ∧
    (live.takes .stageOpening (ask .com .stageOpening 34 (stageValues 2 1000000000000000 0)) (stageValues 2 1000000000000000 0) ∧
      (stageArgs (stageValues 2 1000000000000000 0)).isSome = true) ∧
    live.takes .openBook (raw .com [24#8, 2#8]) [24, 2] ∧
    (live.takes .openBook (raw .com [23#8, 0#8]) [23, 0] ∧ live.time.lost = true) ∧
    ((clocked 36000).takes .openBook (raw .com [0#8, 1#8]) [0, 1] ∧
      (1 : Int) ≠ (clocked 36000).book.opening.toList.countP Option.isSome) ∧
    (let s := clocked 36000
     s.takes .openBook (raw .com [23#8, 0#8]) [((23 : Nat) : Int), 0] ∧ s.time.lost = false ∧ s.move.mode = .hold ∧
       s.book.opening.toList.countP Option.isSome = 0) := by unfold State.takes; decide

theorem witness_OpeningTheBook_sets :
    let held (st : SlotState) (space inventory : Nat) : State :=
      let s := clocked 36000
      { s with book := { s.book with opening := s.book.opening.set 31 (some
          { state := st, space := space, injRight := 0, wdrRight := 0, inventory := inventory }) } }
    (∀ st, (held st 69 70).takes .openBook (raw .com [0#8, 1#8]) [((0 : Nat) : Int), 1]) ∧
    (held .active 69 70).book.opening[31] =
      some { state := .active, space := 69, injRight := 0, wdrRight := 0, inventory := 70 } ∧
    (held .inactive 70 70).book.opening[31] =
      some { state := .inactive, space := 70, injRight := 0, wdrRight := 0, inventory := 70 } ∧
    code .com (after (.openBook (raw .com [0#8, 1#8])) (held .active 69 70)) = some .refusedRange ∧
    code .com (after (.openBook (raw .com [0#8, 1#8])) (held .inactive 70 70)) = some .refusedRange ∧
    code .com (after (.openBook (raw .com [0#8, 1#8])) (held .active 70 70)) = some .ok := by
  refine ⟨fun st => ?_, ?_⟩
  · cases st <;> (unfold State.takes; decide)
  · decide

/-- The arguments of a SET_SHIPPER for slot 1. -/
def shipperValues (state space : Int) : List Int := [1, state, space, 0, 0]

/-- A TRANSFER request. -/
def move (a b q : Int) : Request := ask .com .transfer 10 [a, b, q]

theorem witness_ShipperRequests :
    (trading.takes .setShipper (ask .com .setShipper 26 (shipperValues 3 500)) (shipperValues 3 500) ∧
      shipperArgs (shipperValues 3 500) = none) ∧
    (trading.takes .setShipper (ask .com .setShipper 26 (shipperValues 1 499)) (shipperValues 1 499) ∧
      (shipperArgs (shipperValues 1 499)).map (·.space) = some 499 ∧ trading.book.slots[1].inventory = 500) ∧
    (trading.takes .setShipper (ask .com .setShipper 26 (shipperValues 0 500)) (shipperValues 0 500) ∧
      (shipperArgs (shipperValues 0 500)).map (·.state) = some .inactive ∧ trading.book.slots[1].state ≠ .inactive) ∧
    (trading.takes .setShipper (ask .com .setShipper 26 (shipperValues 2 500)) (shipperValues 2 500) ∧
      code .com (after (.setShipper (ask .com .setShipper 26 (shipperValues 2 500))) trading) = some .ok) ∧
    (trading.takes .transfer (move 33 0 1) [33, 0, 1] ∧ trading.takes .transfer (move 1 1 1) [1, 1, 1] ∧
      trading.takes .transfer (move 1 0 0) [1, 0, 0]) ∧
    (trading.takes .transfer (move 32 0 1) [(32 : Fin 33).val, (0 : Fin 33).val, 1] ∧ trading.book.slots[32].state = .inactive) ∧
    (trading.takes .transfer (move 0 1 501) [(0 : Fin 33).val, (1 : Fin 33).val, 501] ∧
      (trading.book.slots[1].space : Int) < trading.book.slots[1].inventory + 501) ∧
    (trading.takes .transfer (move 1 0 500) [(1 : Fin 33).val, (0 : Fin 33).val, 500] ∧
      trading.book.slots[1].state = .active ∧ ¬trading.book.slots[1].inventory < 500 ∧
      trading.book.slots[0].inventory + 500 ≤ 9223372036854775807) := by unfold State.takes; decide

/-- R155: an entry that is CURRENT, one that is not, a previous-hour copy of the hour or of another, and none. -/
theorem witness_AllocationSteps_rates :
    let n := hourTen 0
    let s (x : Nominations) : State := { clocked 36060 with nom := x }
    let record : IntervalRecord := { bookRecord with endTime := 36060, length := 60 }
    let copy (h : Nat) : Option PreviousHour := some { hour := h, rates := (Vector.replicate 32 0).set 4 77 }
    entriesSound n ∧ ((s n).ratesFor record)[1] = -310000000 ∧
    ((s { n with previous := copy 10 }).ratesFor record)[5] = 77 ∧
    ((s { n with previous := copy 9 }).ratesFor record)[5] = 0 ∧ ((s n).ratesFor record)[5] = 0 := by
  unfold entriesSound; decide

/-- R168 to R173, on the shippers of section 9.6: the pool with the flow and capped, capped with nobody to redistribute to,
against the flow, with nobody along the flow; a counter-flow bound; and a withdrawal. -/
theorem witness_AllocationSteps :
    let only : Vector Int 33 := (Vector.replicate 33 (0 : Int)).set 4 120000000
    let counterOnly : Vector Int 33 := (Vector.replicate 33 (0 : Int)).set 3 (-60000000)
    let poor := bookSlots.set 3 { bookSlots[3] with inventory := 400000 }
    let out : IntervalRecord := { bookRecord with mode := .withdraw, eNet := -9000105 }
    let give (slots : Vector Slot 33) (rates : Vector Int 33) (x : IntervalRecord) (i : Fin 33) : Int × Nat :=
      let a := (recordAllocations slots rates x)[i]
      (a.amount, a.cut)
    (bookRecord.lost = false ∧ bookRecord.mode = .inject ∧ out.mode = .withdraw ∧ out.lost = false) ∧
    (give bookSlots only bookRecord 4, give bookSlots only bookRecord 0) = ((1500000, 7500105), (7500105, 0)) ∧
    (give bookSlots counterOnly bookRecord 3, give bookSlots counterOnly bookRecord 0) = ((-1000000, 0), (10000105, 0)) ∧
    (give poor counterOnly bookRecord 3) = (-400000, 600000) ∧
    (give bookSlots only { bookRecord with eNet := -5 } 4, give bookSlots only { bookRecord with eNet := -5 } 0) =
      ((0, 0), (-5, 0)) ∧
    (give bookSlots counterOnly out 3, give bookSlots counterOnly out 0) = ((-9000105, 0), (0, 0)) ∧
    (give bookSlots only out 4, give bookSlots only out 0) = ((1500000, 500000), (-10500105, 0)) := by decide

/-- R167, R175 to R177: the day counters and totals of section 9.6, and a record flagged CLOCK_LOST, whole at slot 0. -/
theorem witness_AllocationSteps_entered :
    let b : Book := { State.reset.book with slots := bookSlots }
    let held : IntervalRecord := { bookRecord with channels := bookRecord.channels.set 3 { bookRecord.channels[3] with
      flags := 32#11 } }
    let t := b.enter bookRates held
    let u := b.enter bookRates { bookRecord with lost := true }
    (t.slots[4].day.injected, t.slots[4].day.cut, t.slots[3].day.withdrawn, t.slots[3].day.drying, t.slots[1].day.fuel) =
      (1500000, 318201, 1000000, 12000, 25500) ∧
    (t.totals.eNet, t.totals.eFuel, t.totals.eRegen, t.totals.records, t.totals.substituted) =
      (9000105, 45000, 12000, 1, 1) ∧
    ((b.enter bookRates bookRecord).totals.substituted, u.slots[0].inventory, u.slots[0].day.fuel, u.slots[0].day.drying) =
      (0, 8997705, 45000, 12000) ∧
    u.slots[1] = bookSlots[1] := by decide

/-- R156: a shipper SUSPENDED loses its CURRENT confirmation, and CURTAILMENT tells it. -/
theorem witness_ShipperRequests_curtailment :
    let h := changeoverHour 36000 .inject .current
    let s : State := { h with nom := { h.nom with current := 10 } }
    let r := ask .com .setShipper 26 [3, 2, 1000, 400000000, 400000000]
    let t := after (.setShipper r) s
    (s.takes .setShipper r [3, 2, 1000, 400000000, 400000000] ∧ code .com t = some .ok) ∧
    (s.nom.entries.map (·.confirmed)).getLast? = some 95000000 ∧ (t.nom.entries.map (·.confirmed)).getLast? = some 0 ∧
    t.ports.com.causes.getLsbD 5 = true := by unfold State.takes; decide

theorem witness_AllocationOfRecords :
    ({ bookRecord with lost := true } : IntervalRecord).lost = true ∧
    (bookRecord.mode = .inject ∧ bookRecord.lost = false ∧ bookSlots[5].state ≠ .active) ∧
    (0 ≤ bookSlots[4].inventory ∧ bookSlots[4].inventory ≤ bookSlots[4].space) ∧
    (let w : List (Fin 33 × Nat) := [(1, 360000000), (2, 180000000), (4, 120000000)]
     w ≠ [] ∧ (w.map Prod.fst).Nodup ∧ (∀ x ∈ w, 0 < x.2) ∧ 10000105 % 660000000 ≠ 0) := by decide

/-- The record of R179's cases: a minute of 1 January 2024 that ends at an instant. -/
def minuteRecord (endTime : Nat) : IntervalRecord := { bookRecord with endTime := endTime }

/-- A book with this open gas day. -/
def dayOpen (g : Option Int) : Book := { State.reset.book with slots := bookSlots, openDay := g }

theorem witness_AllocationOfRecords_days :
    (minuteRecord 21660).lost = false ∧
    (gasDay (dayOpen none).startHour 21600 = 0 ∧ onBoundary (dayOpen none).startHour 21660 = false ∧
      (dayOpen none).openDay = none) ∧
    ((dayOpen (some 0)).openDay = some 0 ∧ gasDay (dayOpen (some 0)).startHour 107940 = 0 ∧
      onBoundary (dayOpen (some 0)).startHour 108000 = true) ∧
    ((dayOpen (some (-1))).openDay = some (-1) ∧ (-1 : Int) < gasDay (dayOpen (some (-1))).startHour 21600 ∧
      onBoundary (dayOpen (some (-1))).startHour 21660 = false) ∧
    ((dayOpen none).openDay = none ∧ onBoundary (dayOpen none).startHour 108000 = true) ∧
    ((dayOpen (some 5)).openDay = some 5 ∧ gasDay (dayOpen (some 5)).startHour 107940 < 5 ∧
      onBoundary (dayOpen (some 5)).startHour 108000 = true) ∧
    ((dayOpen (some (-1))).openDay = some (-1) ∧ (-1 : Int) < gasDay (dayOpen (some (-1))).startHour 107940 ∧
      onBoundary (dayOpen (some (-1))).startHour 108000 = true) ∧
    ((dayOpen (some 0)).openDay = some 0 ∧ gasDay (dayOpen (some 0)).startHour 21600 = 0 ∧
      onBoundary (dayOpen (some 0)).startHour 21660 = false) := by decide

/-- R180: the record that closes a gas day raises DAY_CLOSED at COM, and another does not. -/
theorem witness_AllocationOfRecords_dayClosed :
    let s : State := { live with book := dayOpen (some 0) }
    ((s.bookTakes (minuteRecord 108000)).ports.com.causes, (s.bookTakes (minuteRecord 21660)).ports.com.causes) =
      (64#11, 0) := by decide

/-- R179: a first record on a boundary closes its own day, a late first one on a boundary two, an earlier one none. -/
theorem test_days_closed_on_boundary :
    let days (g : Option Int) : List Int := (((dayOpen g).take bookRates (minuteRecord 108000)).1.dayRecords).map (·.day)
    days none = [0] ∧ days (some 0) = [0] ∧ days (some (-1)) = [-1, 0] ∧ days (some 5) = [] := by decide

/-- A running SC6 with the seal input OPEN and a change list of a length. -/
def sealOpenList (n : Nat) : State :=
  let e : ChangeEntry := { clock := 0, lost := true, param := 5, channel := none, before := 101325, after := 101325 }
  { live with store := { live.store with sealOpen := true, changeList := List.replicate n e } }

theorem witness_MetrologyRequests :
    let r := ask .met .setMetrology 6 [0, 7, 95300]
    (live.takes .setMetrology r [0, 7, 95300] ∧ live.store.sealOpen = false) ∧
    ((sealOpenList 64).takes .setMetrology r [0, 7, 95300] ∧ (sealOpenList 64).store.sealOpen = true ∧
      64 ≤ (sealOpenList 64).store.changeList.length) ∧
    ((sealOpenList 63).takes .setMetrology (ask .met .setMetrology 6 [0, 8, 95300]) [0, 8, 95300] ∧
      metParam 0 8 = none ∧ (sealOpenList 63).store.changeList.length < 64) ∧
    ((sealOpenList 63).takes .setMetrology (ask .met .setMetrology 6 [0, 7, 999]) [0, 7, 999] ∧
      metParam 0 7 = some (.kp 7) ∧ (sealOpenList 63).metro.params.write (.kp 7) 999 = none) ∧
    ((sealOpenList 63).takes .setMetrology r [0, 7, 95300] ∧
      ((sealOpenList 63).metro.params.write (.kp 7) 95300).isSome = true ∧ (sealOpenList 63).metro.valid = false ∧
      (after (.setMetrology r) (sealOpenList 63)).metro.valid = false) ∧
    metering.valid = true ∧ live.takes .clearMetrologyList (raw .met []) [] := by unfold State.takes; decide

/-- A recovery with these marks, every complete channel calibrated. -/
def recovering (k : BitVec 8) (site : BitVec 20) : State :=
  let s := sealOpenList 0
  { s with metro := { s.metro with
    valid := false, kMarks := k, siteMarks := site, calibrated := if site = BitVec.allOnes 20 then k else 0 } }

/-- R206: the last mark, of PB or of a channel's K-factor, makes the image VALID; one but the last does not. -/
theorem witness_MetrologyRequests_recovery :
    let pb := ask .met .setMetrology 6 [5, 0, 101325]
    let k7 := ask .met .setMetrology 6 [0, 7, 95300]
    let shown (r : Request) (s : State) : Bool × BitVec 8 :=
      ((after (.setMetrology r) s).metro.valid, (after (.setMetrology r) s).metro.calibrated)
    (CalibrationInv (recovering 255#8 0xFFFFE#20) ∧ CalibrationInv (recovering 127#8 0xFFFFF#20)) ∧
    (recovering 255#8 0xFFFFE#20).metro.valid = false ∧
    shown pb (recovering 255#8 0xFFFFE#20) = (true, 255#8) ∧ shown k7 (recovering 127#8 0xFFFFF#20) = (true, 255#8) ∧
    shown pb (recovering 127#8 0xFFFFE#20) = (false, 127#8) ∧ shown k7 (recovering 127#8 0xFFFFE#20) = (false, 0#8) := by
  unfold CalibrationInv; decide

/-- An SC6 without supply. -/
def unpowered (resetInput : Bool) : State :=
  { State.reset with power := { State.reset.power with phase := .inReset, supply := false, resetInput := resetInput } }

/-- An SC6 held by its reset input. -/
def heldInReset : State := { State.reset with power := { State.reset.power with phase := .inReset, resetInput := true } }

/-- A running SC6 whose RESTART is being answered. -/
def restarting : State := { live with power := { live.power with restart := .answering } }

theorem witness_Resets :
    live.power.supply = true ∧ (unpowered true).power.supply = false ∧ (unpowered true).power.resetInput = true ∧
    (unpowered false).power.supply = false ∧ (unpowered false).power.resetInput = false ∧
    (heldInReset.power.resetInput = true ∧ heldInReset.power.supply = true) ∧
    (live.power.resetInput = false ∧ live.power.supply = true) ∧
    live.takes .restart (raw .ops []) [] ∧ State.reset.running = false ∧ live.power.restart = .none ∧
    (restarting.running = true ∧ restarting.power.restart ≠ .none) := by unfold State.takes; decide

/-- Both sides of the CRC-16 check occur: an image as it is formed, and one whose CRC-16 is another value. -/
theorem witness_Resets_images (m : Metrology) : live.store.opImage = none ∧
    live.store.metImage = some (metImage .recovery) ∧ (metImage m).crc = crc16 (metImage m).content.bytes ∧
    ∃ img : Image Metrology, img.content = m ∧ img.crc ≠ crc16 img.content.bytes := by
  refine ⟨rfl, rfl, rfl, ⟨m, crc16 m.bytes + 1#16⟩, rfl, ?_⟩
  generalize crc16 m.bytes = x
  show x + 1#16 ≠ x
  bv_omega

/-- The start-up of an SC6 whose clock was found VALID. -/
def startingClocked : State := { clocked 36000 with power := State.reset.power }

theorem witness_StartUpComplete :
    live.power.phase ≠ .startingUp ∧ (State.reset.power.phase = .startingUp ∧ State.reset.time.lost = true) ∧
    (startingClocked.power.phase = .startingUp ∧ startingClocked.time.lost = false) ∧
    State.reset.params.siteControl = .manual ∧
    (withParams (fun p => { p with siteControl := .auto }) startingClocked).params.siteControl = .auto := by decide

/-- R106, R117, R120, R124: with no channel to trip anything, units and trains stand by their parameters, a COOLING tower's
timer starts afresh, and a LOADED tower beside a READY one starts HEATING. -/
theorem witness_StartUpComplete_equipment :
    let w (st : TowerState) : Tower := { state := st, loading := 9, adsSeconds := 0, pending := false, timer := none }
    let s : State := { State.reset with dryer := { State.reset.dryer with
      trains := Vector.ofFn fun k => { State.reset.dryer.trains[k] with
        towers := if k.val = 0 then #v[w .cooling, w .loaded] else #v[w .ready, w .loaded] } } }
    let t := after (.startUpComplete .movementFirst) s
    s.params.siteControl = .manual ∧ ResetInv s ∧ t.prot.records = s.prot.records ∧
    (s.params.trains[0].inService = true ∧ s.dryer.trains[0].towers[0].state = .cooling ∧
      s.dryer.trains[0].towers[1].state = .loaded ∧ s.dryer.trains[1].towers[1].state = .loaded ∧
      s.dryer.trains[1].towers[partner 1].state ≠ .loaded) ∧
    (t.tower 0).timer = some 7200 ∧ (t.tower 1).state = .loaded ∧ (t.tower 3).state = .heating := by
  refine ⟨by decide, ?_, by decide, by decide, by decide, by decide, by decide⟩
  intro _; unfold State.atResetValues; decide

end Sys2Proof.Tests
end

section
/-! PROOF. The statement on SET_SITE_MODE (R4), and the layer it stands on: what a change of site mode leads to at the
caverns, the units, the trains and the capacity figures (R11), and what entry to a mode that stops units leaves (R101). -/

namespace Sys2Proof.Machine

/-! ### The duty controller at rest (R91, R98 to R101) -/

/-- No unit STARTING or RUNNING and nothing queued: what R101 leaves. -/
def Duty.atRest (d : Duty) : Prop :=
  (∀ u : Fin 4, d.units[u].state ≠ .starting ∧ d.units[u].state ≠ .running) ∧ d.queue = []

/-- A stop at a unit that is STARTING or RUNNING (R91). -/
theorem stop_of_acting {t : Nat} {u : CompUnit} (h : u.state = .starting ∨ u.state = .running) :
    u.stop t = { u with state := .cooldown, timer := some t } := by
  obtain h | h := h <;> simp [CompUnit.stop, h]

/-- A stop at any other unit (R91). -/
theorem stop_of_not_acting {t : Nat} {u : CompUnit} (hs : u.state ≠ .starting) (hr : u.state ≠ .running) :
    u.stop t = u := by
  unfold CompUnit.stop
  split
  · next h => exact absurd h hs
  · next h => exact absurd h hr
  · rfl

theorem stop_not_acting (t : Nat) (u : CompUnit) : (u.stop t).state ≠ .starting ∧ (u.stop t).state ≠ .running := by
  by_cases h : u.state = .starting ∨ u.state = .running
  · simp [stop_of_acting h]
  · obtain ⟨hs, hr⟩ := not_or.mp h
    rw [stop_of_not_acting hs hr]
    exact ⟨hs, hr⟩

theorem stop_startLog (t : Nat) (u : CompUnit) : (u.stop t).startLog = u.startLog := by
  unfold CompUnit.stop; split <;> rfl

theorem stopAll_atRest (t : Nat) (d : Duty) : (d.stopAll t).atRest :=
  ⟨fun u => by simpa [Duty.stopAll] using stop_not_acting t d.units[u], rfl⟩

theorem evalInhibit_atRest {d : Duty} (clock limit : Nat) (h : d.atRest) : (d.evalInhibit clock limit).atRest :=
  ⟨fun u => by simpa [Duty.evalInhibit] using h.1 u, h.2⟩

/-- D is 0 in a mode that stops units (R98). -/
theorem demandOf_of_stopsUnits {e : DutyEnv} (d : Duty) (hm : e.mode.stopsUnits = true) : d.demandOf e = 0 := by
  have hi : e.mode ≠ .inject := by intro h; simp [h, SiteMode.stopsUnits] at hm
  have hw : e.mode ≠ .withdraw := by intro h; simp [h, SiteMode.stopsUnits] at hm
  unfold Duty.demandOf
  split <;> simp [hi, hw]

/-- M is 0 at rest (R99). -/
theorem active_of_atRest {d : Duty} (e : DutyEnv) (h : d.atRest) : d.active e = 0 := by
  refine List.countP_eq_zero.mpr fun u _ => ?_
  simpa using fun _ => h.1 u

theorem removeSurplus_of_queue_nil {d : Duty} (n : Nat) (h : d.queue = []) : Duty.removeSurplus n d = d := by
  cases n <;> simp [Duty.removeSurplus, h, pickBest]

theorem handSlots_of_stopsUnits {e : DutyEnv} (n : Nat) (d : Duty) (hm : e.mode.stopsUnits = true) :
    Duty.handSlots e n d = d := by
  cases n <;> simp [Duty.handSlots, hm]

/-- In a mode that stops units a controller at rest stays at rest: no demand, no entry, no start, no stop delay (R98 to
R101). -/
theorem react_of_atRest {e : DutyEnv} {d : Duty} (hm : e.mode.stopsUnits = true) (h : d.atRest) :
    d.react e = { d with demand := 0, stopDelay := none } := by
  have hrest : ({ d with demand := 0 } : Duty).atRest := h
  have hrec : ({ d with demand := 0 } : Duty).reconcile e = { d with demand := 0 } := by
    simp [Duty.reconcile, Duty.enqueue, removeSurplus_of_queue_nil _ hrest.2]
  simp [Duty.react, demandOf_of_stopsUnits d hm, hrec, handSlots_of_stopsUnits _ _ hm, Duty.checkStopDelay,
    active_of_atRest e hrest]

/-! ### Propagation: what it writes -/

@[simp] theorem State.capacity_move (f : Bool) (s : State) : (s.capacity f).move = s.move := by
  unfold State.capacity; dsimp only; split <;> rfl

@[simp] theorem State.capacity_duty (f : Bool) (s : State) : (s.capacity f).duty = s.duty := by
  unfold State.capacity; dsimp only; split <;> rfl

/-- Nothing that the table of R12 reads is written by a change carried through. -/
theorem cavernState_propagate (f : Bool) (s : State) (i : Fin 6) : (s.propagate f).cavernState i = s.cavernState i := by
  unfold State.propagate State.capacity; dsimp only; split <;> rfl

/-- A change carried through leaves each cavern in the state of R12. -/
theorem propagate_derives_cavern (f : Bool) (s : State) (i : Fin 6) :
    (s.propagate f).move.caverns[i].state = (s.propagate f).cavernState i := by
  rw [cavernState_propagate]
  simp [State.propagate, State.deriveMovement]

/-- The effective figures are those that R142 forms from the potential ones by the site mode. -/
def State.effectiveByMode (s : State) : Prop :=
  s.nom.injEff = (if s.move.mode = .inject then s.nom.injPot else 0) ∧
    s.nom.wdrEff = (if s.move.mode = .withdraw then s.nom.wdrPot else 0)

/-- A change of mode carried through re-forms the effective figures (R142). -/
theorem propagate_effective (s : State) : (s.propagate true).effectiveByMode := by
  simp only [State.propagate, State.capacity, Bool.true_or, if_true]
  exact ⟨rfl, rfl⟩

/-- A change carried through in a mode that stops units, the duty controller at rest (R94, R98 to R101). -/
theorem propagate_duty_of_atRest {f : Bool} {s : State} (hm : s.move.mode.stopsUnits = true) (h : s.duty.atRest) :
    (s.propagate f).duty =
      { s.duty.evalInhibit s.time.clock s.params.duty.startLimit with demand := 0, stopDelay := none } := by
  have hd : (s.deriveMovement.evalInhibit.capacity f).duty =
      s.duty.evalInhibit s.time.clock s.params.duty.startLimit := by simp
  have he : (s.deriveMovement.evalInhibit.capacity f).dutyEnv.mode.stopsUnits = true := by
    simpa [State.dutyEnv, State.deriveMovement] using hm
  rw [State.propagate, State.react_duty, hd, react_of_atRest he (evalInhibit_atRest _ _ h)]

/-! ### A change of the site mode (R5, R11) -/

/-- The state in which a new mode is entered, the blocks yet to follow it: the mode and the changeover set, and the units
stopped where the mode stops them (R101). -/
def State.entering (m : SiteMode) (c : Option Changeover) (s : State) : State :=
  { s with move := { s.move with mode := m, changeover := c }
           duty := if m.stopsUnits then s.duty.stopAll s.params.duty.tCool else s.duty }

/-- The mode set to what it is: the changeover alone may differ. -/
theorem setMode_same {m : SiteMode} {s : State} (c : Option Changeover) (h : m = s.move.mode) :
    s.setMode m c = { s with move := { s.move with mode := m, changeover := c } } := by
  unfold State.setMode
  exact if_pos h

/-- Another mode: trains, caverns, capacity and units follow (R109, R142). -/
theorem setMode_changes {m : SiteMode} {s : State} (c : Option Changeover) (h : m ≠ s.move.mode) :
    s.setMode m c = (s.entering m c).deriveTrains.propagate true := by
  unfold State.setMode State.entering
  dsimp only
  rw [if_neg h]
  cases m.stopsUnits <;> rfl

theorem setMode_mode (m : SiteMode) (c : Option Changeover) (s : State) : (s.setMode m c).move.mode = m :=
  (setMode_settled m c s).2.1

theorem setMode_effective {m : SiteMode} {s : State} (c : Option Changeover) (h : m ≠ s.move.mode) :
    (s.setMode m c).effectiveByMode := by
  rw [setMode_changes c h]
  exact propagate_effective _

/-- A train reads the trip records, the site mode and the parameters alone (R109). -/
theorem trainEnv_congr {s t : State} (hr : t.prot = s.prot) (hm : t.move.mode = s.move.mode) (hp : t.params = s.params)
    (k : Fin 2) : t.trainEnv k = s.trainEnv k := by
  simp only [State.trainEnv, hr, hm, hp]

/-- A change of mode derives each train afresh in the new mode (R109). -/
theorem setMode_trains {m : SiteMode} {s : State} (c : Option Changeover) (h : m ≠ s.move.mode) (k : Fin 2) :
    (s.setMode m c).dryer.trains[k] = (s.dryer.trains[k]).derive ((s.setMode m c).trainEnv k) := by
  rw [setMode_changes c h]
  obtain ⟨⟨⟨-, -, -, -, -, -, hp, -⟩, -⟩, hr, hd, hm, -⟩ :=
    propagate_rederived true (s.entering m c).deriveTrains
  rw [trainEnv_congr hr hm hp, hd]
  simp [State.deriveTrains, State.entering, State.trainEnv]

/-- What entry to a mode that stops units leaves at the duty controller (R101). -/
theorem setMode_duty_of_stopsUnits {m : SiteMode} {s : State} (c : Option Changeover) (h : m ≠ s.move.mode)
    (hm : m.stopsUnits = true) :
    (s.setMode m c).duty =
      { (s.duty.stopAll s.params.duty.tCool).evalInhibit s.time.clock s.params.duty.startLimit with
        demand := 0, stopDelay := none } := by
  have hd : (s.entering m c).deriveTrains.duty = s.duty.stopAll s.params.duty.tCool := if_pos hm
  rw [setMode_changes c h, propagate_duty_of_atRest (s := (s.entering m c).deriveTrains) hm
    (by rw [hd]; exact stopAll_atRest _ _), hd]
  rfl

theorem setMode_atRest {m : SiteMode} {s : State} (c : Option Changeover) (h : m ≠ s.move.mode)
    (hm : m.stopsUnits = true) : (s.setMode m c).duty.atRest ∧ (s.setMode m c).duty.stopDelay = none := by
  rw [setMode_duty_of_stopsUnits c h hm]
  exact ⟨evalInhibit_atRest _ _ (stopAll_atRest _ _), rfl⟩

/-- A unit after entry to a mode that stops units: it has taken a stop, and its start-inhibited flag is evaluated afresh
(R91, R94, R101). -/
theorem setMode_unit_of_stopsUnits {m : SiteMode} {s : State} (c : Option Changeover) (h : m ≠ s.move.mode)
    (hm : m.stopsUnits = true) (u : Fin 4) :
    ∃ b, (s.setMode m c).duty.units[u] = { (s.duty.units[u]).stop s.params.duty.tCool with inhibited := b } := by
  rw [setMode_duty_of_stopsUnits c h hm]
  refine ⟨((s.duty.units[u]).stop s.params.duty.tCool).inhibition s.time.clock s.params.duty.startLimit, ?_⟩
  simp [Duty.evalInhibit, Duty.stopAll]

/-- A site mode set, the same or another, does at trains and units what R91, R101 and R109 say. -/
theorem setMode_modeFollows (m : SiteMode) (c : Option Changeover) (s : State) : s.modeFollows (s.setMode m c) := by
  unfold State.modeFollows
  rw [setMode_mode]
  refine ⟨fun h => by rw [setMode_same c h], fun h => setMode_trains c h, fun hm hs u => ?_⟩
  subst hm
  obtain ⟨b, hu⟩ := setMode_unit_of_stopsUnits c (Ne.symm hs) rfl u
  simp only [hu]
  refine ⟨fun h => ?_, fun hns hnr => ?_, stop_startLog _ _, (stop_counts _ _).1⟩
  · rw [stop_of_acting h]; exact ⟨rfl, rfl⟩
  · rw [stop_of_not_acting hns hnr]; exact ⟨rfl, rfl⟩

/-! ### Trains outside WITHDRAW -/

theorem startHeating_state (e : TrainEnv) (t : Train) : (t.startHeating e).state = t.state := by
  unfold Train.startHeating
  split
  · rfl
  · split <;> rfl

/-- The table of R109 puts no train into a drying state outside WITHDRAW. -/
theorem derivedState_not_drying {e : TrainEnv} (h : e.withdraw = false) (t : Train) :
    (t.derivedState e).isDrying = false := by
  unfold Train.derivedState
  rw [h]
  split
  · rfl
  · split <;> rfl

/-- No train is drying outside WITHDRAW once it is derived afresh (R109). -/
theorem derive_not_drying {e : TrainEnv} (h : e.withdraw = false) (t : Train) : (t.derive e).state.isDrying = false := by
  have hd := derivedState_not_drying h t
  have hne : t.derivedState e ≠ .inService := by intro hi; rw [hi] at hd; cases hd
  simp [Train.derive, startHeating_state, hne, hd]

/-! ### Output lines (R15, R86) -/

/-- A cavern that is not FLOWING has no flow permissive (R15). -/
theorem permissive_of_not_flowing {s : State} {i : Fin 6} (h : s.move.caverns[i].state ≠ .flowing) :
    s.outputs.permissive[i] = false := by
  unfold State.outputs
  split
  · simp_all
  · simp [Outputs.inactive]

/-- A unit that is neither STARTING nor RUNNING has no run command (R86). -/
theorem run_of_not_acting {s : State} {u : Fin 4} (hs : s.duty.units[u].state ≠ .starting)
    (hr : s.duty.units[u].state ≠ .running) : s.outputs.run[u] = false := by
  unfold State.outputs
  split
  · simp_all
  · simp [Outputs.inactive]

/-! ### Entry to CHANGEOVER (R6) -/

/-- Neither INJECT nor WITHDRAW: no cavern is FLOWING (R12). -/
theorem cavernState_not_flowing {s : State} (hi : s.move.mode ≠ .inject) (hw : s.move.mode ≠ .withdraw) (i : Fin 6) :
    s.cavernState i ≠ .flowing := by
  simp only [State.cavernState, beq_eq_false_iff_ne.mpr hi, beq_eq_false_iff_ne.mpr hw]
  split
  · simp
  · split <;> simp

/-- Everything has come to rest: no cavern FLOWING, no unit STARTING or RUNNING, nothing queued, no stop delay, no train
drying. -/
def State.movementStopped (s : State) : Prop :=
  (∀ i : Fin 6, s.move.caverns[i].state ≠ .flowing) ∧ s.duty.atRest ∧ s.duty.stopDelay = none ∧
    ∀ k : Fin 2, s.dryer.trains[k].state.isDrying = false

/-- Entry to CHANGEOVER stops the whole movement (R6, R101, R109). -/
theorem setMode_changeover_stops {s : State} (c : Option Changeover) (h : s.move.mode ≠ .changeover) :
    (s.setMode .changeover c).movementStopped := by
  have hmode := setMode_mode .changeover c s
  obtain ⟨hrest, hdelay⟩ := setMode_atRest c (Ne.symm h) rfl
  refine ⟨fun i => ?_, hrest, hdelay, fun k => ?_⟩
  · have hc := cavernState_not_flowing (s := s.setMode .changeover c) (by simp [hmode]) (by simp [hmode]) i
    rw [setMode_changes c (Ne.symm h)] at hc ⊢
    rwa [propagate_derives_cavern]
  · rw [setMode_trains c (Ne.symm h)]
    exact derive_not_drying (by simp [State.trainEnv, hmode]) _

/-- What a stopped movement shows at the output lines, where these follow the state. -/
theorem movementStopped_lines {s : State} (hout : s.out = s.outputs) (h : s.movementStopped) :
    (∀ i : Fin 6, s.out.permissive[i] = false) ∧ ∀ u : Fin 4, s.out.run[u] = false := by
  obtain ⟨hcav, ⟨hunits, -⟩, -⟩ := h
  rw [hout]
  exact ⟨fun i => permissive_of_not_flowing (hcav i), fun u => run_of_not_acting (hunits u).1 (hunits u).2⟩

/-! ### A wanted mode applied (R5) -/

/-- A wanted mode applied is stored, and sets the mode and the changeover of Table 1-1. -/
theorem applyWanted_eq (w : Wanted) (s : State) :
    s.applyWanted w =
      ({ s with move := { s.move with wanted := w } } : State).setMode
        (table1_1 s.params.tChange s.move.mode s.move.changeover w).1
        (table1_1 s.params.tChange s.move.mode s.move.changeover w).2 := by
  rw [← applyTable_eq]; rfl

theorem applyWanted_modeFollows (w : Wanted) (s : State) : s.modeFollows (s.applyWanted w) := by
  rw [applyWanted_eq]
  exact setMode_modeFollows _ _ { s with move := { s.move with wanted := w } }

/-- A change of mode by a wanted mode re-forms the effective figures (R142). -/
theorem applyWanted_effective {w : Wanted} {s : State} (h : (s.applyWanted w).move.mode ≠ s.move.mode) :
    (s.applyWanted w).effectiveByMode := by
  rw [applyWanted_eq] at h ⊢
  rw [setMode_mode] at h
  exact setMode_effective _ h

/-- A wanted mode that leads into CHANGEOVER stops the whole movement (R6, R101). -/
theorem applyWanted_changeover_stops {w : Wanted} {s : State} (ht : (s.applyWanted w).move.mode = .changeover)
    (hs : s.move.mode ≠ .changeover) : (s.applyWanted w).movementStopped := by
  rw [applyWanted_eq] at ht ⊢
  rw [setMode_mode] at ht
  rw [ht]
  exact setMode_changeover_stops _ hs

/-! ### SET_SITE_MODE (R4) -/

theorem exec_setSiteMode (r : Request) (s : State) :
    exec (.setSiteMode r) s = request .setSiteMode r actSetSiteMode s := rfl

/-- HOLD, INJECT and WITHDRAW are named by 0, 1 and 2 (R4). -/
theorem wanted_ofCode_iff (v : Int) (w : Wanted) :
    Wanted.ofCode v = some w ↔ (v, w) ∈ [((0 : Int), Wanted.hold), (1, .inject), (2, .withdraw)] := by
  unfold Wanted.ofCode
  by_cases h0 : v = 0
  · simp [h0, eq_comm]
  · by_cases h1 : v = 1
    · simp [h1, eq_comm]
    · by_cases h2 : v = 2 <;> simp [h0, h1, h2, eq_comm]

/-- Any other value names no mode (R4). -/
theorem wanted_ofCode_none {v : Int} (h0 : v ≠ 0) (h1 : v ≠ 1) (h2 : v ≠ 2) : Wanted.ofCode v = none := by
  simp [Wanted.ofCode, h0, h1, h2]

theorem actSetSiteMode_range {v : Int} (s : State) (h : Wanted.ofCode v = none) :
    actSetSiteMode [v] s = refuse .refusedRange s := by
  simp [actSetSiteMode, h]

theorem actSetSiteMode_state {v : Int} {w : Wanted} {s : State} (h : Wanted.ofCode v = some w)
    (hs : s.params.siteControl = .auto ∨ s.move.mode = .shutdown) :
    actSetSiteMode [v] s = refuse .refusedState s := by
  obtain hs | hs := hs <;> simp [actSetSiteMode, h, hs]

theorem actSetSiteMode_accepts {v : Int} {w : Wanted} {s : State} (h : Wanted.ofCode v = some w)
    (hc : s.params.siteControl = .manual) (hm : s.move.mode ≠ .shutdown) :
    actSetSiteMode [v] s = accept (s.applyWanted w) := by
  simp [actSetSiteMode, h, hc, hm]

/-- Settles O40: the two refusals and the acceptance by R4's table, and past acceptance what the wanted mode's application
does at each block. -/
theorem setSiteMode : Obligations.SetSiteMode := by
  unfold Obligations.SetSiteMode
  intro r s v htakes
  dsimp only
  rw [exec_setSiteMode]
  refine ⟨fun h0 h1 h2 => ?_, fun hv hs => ?_, fun w hw hc hm => ?_⟩
  · exact request_refuses htakes (actSetSiteMode_range s (wanted_ofCode_none h0 h1 h2))
  · obtain ⟨w, hw⟩ : ∃ w, Wanted.ofCode v = some w := by
      obtain rfl | rfl | rfl := hv <;> exact ⟨_, rfl⟩
    exact request_refuses htakes (actSetSiteMode_state hw hs)
  · obtain ⟨hsettled, hwanted, hprot, htable⟩ := applyWanted_settled w s
    have haccept := actSetSiteMode_accepts ((wanted_ofCode_iff v w).mpr hw) hc hm
    refine ⟨_, request_accepts htakes haccept, answered_answers _ _ _ _ _, settled_answered r _ _ _ hsettled, hprot,
      hwanted, htable, applyWanted_modeFollows w s, applyWanted_effective, fun ht hs => ?_⟩
    have hstopped : (answered r .setSiteMode .ok [] (s.applyWanted w)).movementStopped :=
      applyWanted_changeover_stops ht hs
    obtain ⟨hperm, hrun⟩ := movementStopped_lines rfl hstopped
    obtain ⟨hcav, ⟨hunits, hqueue⟩, hdelay, htrains⟩ := hstopped
    exact ⟨fun i => ⟨hcav i, hperm i⟩, fun u => ⟨(hunits u).1, (hunits u).2, hrun u⟩, hqueue, hdelay, htrains⟩

end Sys2Proof.Machine
end

section
/-! PROOF. The statement on stages 4 and 5 over a run of intervals (R53, R54): what one conversion keeps, carried along
the run by the residues. -/

namespace Sys2Proof.Machine

/-! ### One conversion (R53, R54) -/

/-- Stage 4 loses no part of a litre: what V does not take stays in the volume residue (R53). -/
theorem convert_volume_add_volRes (kp cv f n volRes enRes : Nat) :
    kp * (convert kp cv f n volRes enRes).volume + (convert kp cv f n volRes enRes).volRes = n * f + volRes :=
  Nat.div_add_mod (n * f + volRes) kp

theorem convert_volRes_lt {kp : Nat} (hkp : 0 < kp) (cv f n volRes enRes : Nat) :
    (convert kp cv f n volRes enRes).volRes < kp :=
  Nat.mod_lt _ hkp

/-- Stage 5 loses no part of a Wh: what E does not take stays in the energy residue (R54). -/
theorem convert_energy_add_enRes (kp cv f n volRes enRes : Nat) :
    3600 * (convert kp cv f n volRes enRes).energy + (convert kp cv f n volRes enRes).enRes =
      (convert kp cv f n volRes enRes).volume * cv + enRes :=
  Nat.div_add_mod ((convert kp cv f n volRes enRes).volume * cv + enRes) 3600

theorem convert_enRes_lt (kp cv f n volRes enRes : Nat) : (convert kp cv f n volRes enRes).enRes < 3600 :=
  Nat.mod_lt _ (by decide)

/-! ### A run of conversions -/

@[simp] theorem convertRun_nil (kp cv : Nat) (res : Nat × Nat) : convertRun kp cv [] res = ((0, 0), res) := rfl

/-- The first interval's V and E are added to those of the rest, which starts from the first interval's residues. -/
@[simp] theorem convertRun_cons (kp cv n f : Nat) (rest : List (Nat × Nat)) (res : Nat × Nat) :
    convertRun kp cv ((n, f) :: rest) res =
      let c := convert kp cv f n res.1 res.2
      let x := convertRun kp cv rest (c.volRes, c.enRes)
      ((c.volume + x.1.1, c.energy + x.1.2), x.2) := rfl

/-- Over a run the sum of V and the last volume residue account for the exact conversion and the first residue (R53). -/
theorem convertRun_volume_add_volRes (kp cv : Nat) (runs : List (Nat × Nat)) (res : Nat × Nat) :
    kp * (convertRun kp cv runs res).1.1 + (convertRun kp cv runs res).2.1 =
      (runs.map fun r => r.1 * r.2).sum + res.1 := by
  induction runs generalizing res with
  | nil => simp
  | cons r rest ih =>
    obtain ⟨n, f⟩ := r
    have hfirst := convert_volume_add_volRes kp cv f n res.1 res.2
    have hrest := ih ((convert kp cv f n res.1 res.2).volRes, (convert kp cv f n res.1 res.2).enRes)
    simp only [convertRun_cons, List.map_cons, List.sum_cons, Nat.mul_add]
    omega

/-- Over a run the sum of E and the last energy residue account for the sum of V and the first residue (R54). -/
theorem convertRun_energy_add_enRes (kp cv : Nat) (runs : List (Nat × Nat)) (res : Nat × Nat) :
    3600 * (convertRun kp cv runs res).1.2 + (convertRun kp cv runs res).2.2 =
      (convertRun kp cv runs res).1.1 * cv + res.2 := by
  induction runs generalizing res with
  | nil => simp
  | cons r rest ih =>
    obtain ⟨n, f⟩ := r
    have hfirst := convert_energy_add_enRes kp cv f n res.1 res.2
    have hrest := ih ((convert kp cv f n res.1 res.2).volRes, (convert kp cv f n res.1 res.2).enRes)
    simp only [convertRun_cons, Nat.add_mul]
    omega

/-- The residues that a run leaves lie in the ranges of R54, where those it starts from do. -/
theorem convertRun_residues_lt {kp : Nat} (hkp : 0 < kp) (cv : Nat) (runs : List (Nat × Nat)) {res : Nat × Nat}
    (hvol : res.1 < kp) (hen : res.2 < 3600) :
    (convertRun kp cv runs res).2.1 < kp ∧ (convertRun kp cv runs res).2.2 < 3600 := by
  induction runs generalizing res with
  | nil => exact ⟨hvol, hen⟩
  | cons r rest ih =>
    obtain ⟨n, f⟩ := r
    exact ih (convert_volRes_lt hkp cv f n res.1 res.2) (convert_enRes_lt kp cv f n res.1 res.2)

/-- Residues below the divisor on both sides leave less than one divisor between the sum and the total. -/
theorem within_one_of_residues {kp volume total first last : Nat} (hsum : kp * volume + last = total + first)
    (hfirst : first < kp) (hlast : last < kp) : total < kp * (volume + 1) ∧ kp * volume < total + kp := by
  rw [Nat.mul_add, Nat.mul_one]
  omega

/-- Settles O37: one conversion by division with remainder; a run by induction over its intervals, the residues carried
from each to the next, and the litre's bound from the ranges of the first and the last volume residue. -/
theorem conversionFold : Obligations.ConversionFold := by
  unfold Obligations.ConversionFold
  refine ⟨fun kp cv f n volRes enRes hkp => ?_, fun kp cv runs volRes enRes hkp hvol hen => ?_⟩
  · exact ⟨convert_volume_add_volRes .., convert_volRes_lt hkp .., convert_energy_add_enRes .., convert_enRes_lt ..⟩
  · have hsum := convertRun_volume_add_volRes kp cv runs (volRes, enRes)
    obtain ⟨hvolLast, henLast⟩ := convertRun_residues_lt hkp cv runs (res := (volRes, enRes)) hvol hen
    obtain ⟨hbelow, habove⟩ := within_one_of_residues hsum hvol hvolLast
    exact ⟨hsum, hvolLast, hbelow, habove, convertRun_energy_add_enRes kp cv runs (volRes, enRes), henLast⟩

end Sys2Proof.Machine
end

section
/-! PROOF. The statement on request kinds and access (R189): the rows of Table 10-3, the ports marked for each band of kind
values, and the two refusals with REFUSED_ACCESS. -/

namespace Sys2Proof.Machine

/-! ### The kinds of Table 10-3 -/

theorem mem_allKinds (k : ReqKind) : k ∈ allKinds := by
  cases k <;> decide

/-- The rows of Table 10-3, read one after the other, list every kind. -/
theorem tableRows_kinds : tableRows.flatMap (·.2) = allKinds := rfl

theorem exists_tableRow (k : ReqKind) : ∃ row ∈ tableRows, k ∈ row.2 :=
  List.mem_flatMap.mp (tableRows_kinds ▸ mem_allKinds k)

/-- The kinds within each row take consecutive values in the order listed (R189). -/
theorem tableRow_codes_consecutive :
    ∀ row ∈ tableRows, row.2.map kindCode = (List.range row.2.length).map (row.1 + ·) := by
  decide

/-! ### Access -/

/-- The marks of Table 10-3 are those of the band of kind values that the kind lies in. -/
theorem ownPorts_eq_band (k : ReqKind) :
    ownPorts k =
      if kindCode k < 0x10 then [.ops, .com, .met]
      else if kindCode k < 0x20 then [.ops, .met]
      else if kindCode k < 0x50 then [.ops]
      else if kindCode k < 0x60 then [.com]
      else [.met] := by
  cases k <;> rfl

theorem mayIssue_iff_mem_ownPorts (p : Port) (k : ReqKind) : mayIssue p k = true ↔ p ∈ ownPorts k := by
  rw [ownPorts_eq_band, mayIssue]
  by_cases h10 : kindCode k < 0x10
  · simp only [if_pos h10]; cases p <;> decide
  by_cases h20 : kindCode k < 0x20
  · simp only [if_neg h10, if_pos h20]; cases p <;> decide
  by_cases h50 : kindCode k < 0x50
  · simp only [if_neg h10, if_neg h20, if_pos h50]; cases p <;> decide
  by_cases h60 : kindCode k < 0x60
  · simp only [if_neg h10, if_neg h20, if_neg h50, if_pos h60]; cases p <;> decide
  · simp only [if_neg h10, if_neg h20, if_neg h50, if_neg h60]; cases p <;> decide

theorem mayIssue_eq_false {p : Port} {k : ReqKind} (h : p ∉ ownPorts k) : mayIssue p k = false :=
  Bool.eq_false_iff.mpr fun hm => h ((mayIssue_iff_mem_ownPorts p k).mp hm)

/-! ### A request as a command -/

/-- Whatever its kind, a request is checked by R186 and then decided by its owning block. -/
theorem exec_ofRequest (k : ReqKind) (w : Taking) (r : Request) :
    ∃ act : Act, ∀ s : State, exec (ofRequest k w r) s = request k r act s := by
  cases k
  case resetTrip =>
    refine ⟨actResetTrip, fun s => ?_⟩
    obtain ⟨port, tag, payload⟩ := r
    by_cases hadvisory : payload = [13#8]
    · subst hadvisory; rfl
    · simp only [ofRequest, if_neg hadvisory]; rfl
  all_goals exact ⟨_, fun _ => rfl⟩

/-- A kind issued from a port that Table 10-3 does not mark for it is refused and changes nothing else (R186, R189). -/
theorem exec_ofRequest_refusedAccess {k : ReqKind} {r : Request} {s : State} (w : Taking)
    (haccepting : s.accepting r.port = true) (hport : r.port ∉ ownPorts k) :
    exec (ofRequest k w r) s = .next (answered r k .refusedAccess [] s) := by
  obtain ⟨act, hact⟩ := exec_ofRequest k w r
  rw [hact]
  exact request_access act haccepting (mayIssue_eq_false hport)

/-- A kind value outside Table 10-3 is refused at any port that can take a request (R186, R189). -/
theorem exec_undefinedRequestKind {r : Request} {s : State} (kind : Byte) (haccepting : s.accepting r.port = true) :
    exec (.undefinedRequestKind r kind) s = .next (answeredAs r kind .refusedAccess [] s) := by
  have htaken := atPort_accepting kind (refuse .refusedAccess) haccepting
  calc exec (.undefinedRequestKind r kind) s
      = (s.atPort r kind (refuse .refusedAccess)).done := rfl
    _ = .next (answeredAs r kind .refusedAccess [] s) := by rw [htaken]; rfl

/-- Settles O15: the table by its rows, access by the band of the kind value, and both refusals by the checks every request
goes through. -/
theorem accessTable : Obligations.AccessTable := by
  unfold Obligations.AccessTable
  exact ⟨tableRow_codes_consecutive, exists_tableRow, mayIssue_iff_mem_ownPorts,
    fun _ w _ _ haccepting hport => exec_ofRequest_refusedAccess w haccepting hport,
    fun kind _ _ haccepting _ => exec_undefinedRequestKind kind haccepting⟩

end Sys2Proof.Machine
end
